-- ==== Sys2Proof/Word.lean ====
section
/-! DEFINITION. The word types of CRCE: 64-bit register values and 8-bit bytes (00_scope.md R10, R14). -/

namespace Sys2Proof

/-- A 64-bit register value as it crosses the bus (20_memory.md R74). -/
abbrev Word := BitVec 64

/-- A byte: one input byte of the data stream, an opcode, an argument or a spec tag. -/
abbrev Byte := BitVec 8

end Sys2Proof
end

