-- ==== Sys2Proof/Syntax.lean ====
section
/-! DEFINITION. The instructions of CRCE: one constructor per row of spec/opcode_table.json, the ten commands
(30_encoding.md R108) and the two bus accesses (30_encoding.md R102). -/

namespace Sys2Proof

/-- A command or a bus access. The ARG field of UPDATE and LOAD_PRESET is kept whole (30_encoding.md R106), and so is
the ADDR field of a bus access; WellFormed says which values are legal. -/
inductive Instr where
  /-- 0x00, 41_engine.md R165 -/
  | nop
  /-- 0x01, 40_table_builder.md R135 -/
  | config
  /-- 0x02, 41_engine.md R163 -/
  | reset
  /-- 0x03, 41_engine.md R161; the argument is NBYTES -/
  | update (nbytes : Byte)
  /-- 0x04, 42_combiner.md R191 -/
  | captureA
  /-- 0x05, 42_combiner.md R193 -/
  | captureB
  /-- 0x06, 42_combiner.md R196 -/
  | combine
  /-- 0x07, 40_table_builder.md R144 -/
  | selftest
  /-- 0x08, 40_table_builder.md R143; the argument is PRESET -/
  | loadPreset (preset : Byte)
  /-- 0x09, 43_host_access.md R222 -/
  | clear
  /-- a legal bus read, 43_host_access.md R220 -/
  | rd (addr : BitVec 12)
  /-- a legal bus write, 43_host_access.md R221; the data travels beside the descriptor -/
  | wr (addr : BitVec 12) (data : Word)
  deriving DecidableEq, Repr

end Sys2Proof
end

