-- ==== Sys2Proof/WellFormed.lean ====
section
/-! DEFINITION. Which instruction terms stand for a legal form of the spec. -/

namespace Sys2Proof

/-- The legal forms: NBYTES is 0 to 8, PRESET is 0 or 1 (30_encoding.md R106), and ADDR is a multiple of 8
(20_memory.md R72). -/
def Instr.wellFormed : Instr → Bool
  | .update nbytes => nbytes.toNat ≤ 8
  | .loadPreset preset => preset.toNat ≤ 1
  | .rd addr => addr.toNat % 8 = 0
  | .wr addr _ => addr.toNat % 8 = 0
  | .nop | .config | .reset | .captureA | .captureB | .combine | .selftest | .clear => true

/-- `i` is a legal form. -/
abbrev WellFormed (i : Instr) : Prop := i.wellFormed = true

/-- A command that CRCE holds in flight when it is written to CMD: every command but CLEAR, which completes at the
write (10_state.md R26), and no bus access. -/
def Instr.issues : Instr → Bool
  | .clear | .rd _ | .wr _ _ => false
  | .nop | .config | .reset | .update _ | .captureA | .captureB | .combine | .selftest | .loadPreset _ => true

end Sys2Proof
end

