-- ==== Sys2Proof/Decode.lean ====
section
/-! DEFINITION. Decoding of command words (30_encoding.md R111) and of bus access descriptors (30_encoding.md R101,
R102), each total, rejecting by name; the encoder written from the same tables; and the words of the opcode table. -/

namespace Sys2Proof

/-- What a decoder answers. -/
inductive Decoded where
  /-- the word is a legal form -/
  | ok (i : Instr)
  /-- an illegal command word, with its OPCODE field (60_exceptions.md R258) -/
  | illegalCmd (op : Byte)
  /-- a command word whose ARG is out of range, with its OPCODE field (60_exceptions.md R257) -/
  | badArg (op : Byte)
  /-- a bus access of a wrong size or alignment (20_memory.md R73) -/
  | illegalAccess
  deriving DecidableEq, Repr

/-- What CRCE decodes: a word written to CMD, or a bus access descriptor with the data beside it
(30_encoding.md R100). -/
inductive Encoded where
  | command (v : Word)
  | bus (desc : BitVec 16) (wdata : Word)
  deriving DecidableEq, Repr

/-- OPCODE, bits 7:0 of a command word (30_encoding.md R105). -/
def opcodeOf (v : Word) : Byte := v.extractLsb' 0 8

/-- ARG, bits 15:8 of a command word (30_encoding.md R106). -/
def argOf (v : Word) : Byte := v.extractLsb' 8 8

/-- RSVD, bits 63:16 of a command word (30_encoding.md R107). -/
def rsvdOf (v : Word) : BitVec 48 := v.extractLsb' 16 48

/-- The command word with the given OPCODE and ARG, RSVD = 0 (30_encoding.md R104). -/
def commandWord (op arg : Byte) : Word := (arg.setWidth 64 <<< 8) ||| op.setWidth 64

/-- The command of an assigned OPCODE (30_encoding.md R108); 0x09 is the last. -/
def commandOf (op arg : Byte) : Instr :=
  if op = 0x00#8 then .nop
  else if op = 0x01#8 then .config
  else if op = 0x02#8 then .reset
  else if op = 0x03#8 then .update arg
  else if op = 0x04#8 then .captureA
  else if op = 0x05#8 then .captureB
  else if op = 0x06#8 then .combine
  else if op = 0x07#8 then .selftest
  else if op = 0x08#8 then .loadPreset arg
  else .clear

/-- Decoding of a command word, total over all 64-bit words (30_encoding.md R111). -/
def decodeCmd (v : Word) : Decoded :=
  let op := opcodeOf v
  let arg := argOf v
  if rsvdOf v ≠ 0#48 then .illegalCmd op
  else if 0x0A ≤ op.toNat then .illegalCmd op
  else if op ≠ 0x03#8 ∧ op ≠ 0x08#8 ∧ arg ≠ 0#8 then .illegalCmd op
  else if op = 0x03#8 ∧ 8 < arg.toNat then .badArg op
  else if op = 0x08#8 ∧ 1 < arg.toNat then .badArg op
  else .ok (commandOf op arg)

/-- WRITE, bit 15 of a descriptor (30_encoding.md R101). -/
def descWrite (d : BitVec 16) : Bool := d.getLsbD 15

/-- SIZE, bits 14:12 of a descriptor (30_encoding.md R101). -/
def descSize (d : BitVec 16) : BitVec 3 := d.extractLsb' 12 3

/-- ADDR, bits 11:0 of a descriptor (30_encoding.md R101). -/
def descAddr (d : BitVec 16) : BitVec 12 := d.extractLsb' 0 12

/-- Decoding of a bus access: legal exactly when SIZE = 3 and ADDR[2:0] = 0 (20_memory.md R72, 30_encoding.md R102). -/
def decodeBus (d : BitVec 16) (wdata : Word) : Decoded :=
  if descSize d = 3#3 ∧ (descAddr d).toNat % 8 = 0 then
    if descWrite d then .ok (.wr (descAddr d) wdata) else .ok (.rd (descAddr d))
  else .illegalAccess

/-- Decoding of either format. -/
def decode : Encoded → Decoded
  | .command v => decodeCmd v
  | .bus d wdata => decodeBus d wdata

/-- The descriptor of a legal access (30_encoding.md R101, R102). -/
def busDesc (write : Bool) (addr : BitVec 12) : BitVec 16 :=
  ((BitVec.ofBool write).setWidth 16 <<< 15) ||| 0x3000#16 ||| addr.setWidth 16

/-- The words of an instruction (30_encoding.md R102, R104, R108). -/
def encode : Instr → Encoded
  | .nop => .command (commandWord 0x00#8 0#8)
  | .config => .command (commandWord 0x01#8 0#8)
  | .reset => .command (commandWord 0x02#8 0#8)
  | .update nbytes => .command (commandWord 0x03#8 nbytes)
  | .captureA => .command (commandWord 0x04#8 0#8)
  | .captureB => .command (commandWord 0x05#8 0#8)
  | .combine => .command (commandWord 0x06#8 0#8)
  | .selftest => .command (commandWord 0x07#8 0#8)
  | .loadPreset preset => .command (commandWord 0x08#8 preset)
  | .clear => .command (commandWord 0x09#8 0#8)
  | .rd addr => .bus (busDesc false addr) 0#64
  | .wr addr data => .bus (busDesc true addr) data

/-- The row of spec/opcode_table.json an instruction belongs to: its format's width, match and mask. -/
def Instr.row : Instr → Nat × Nat × Nat
  | .nop => (64, 0x0, 0xFFFFFFFFFFFFFFFF)
  | .config => (64, 0x1, 0xFFFFFFFFFFFFFFFF)
  | .reset => (64, 0x2, 0xFFFFFFFFFFFFFFFF)
  | .update _ => (64, 0x3, 0xFFFFFFFFFFFF00FF)
  | .captureA => (64, 0x4, 0xFFFFFFFFFFFFFFFF)
  | .captureB => (64, 0x5, 0xFFFFFFFFFFFFFFFF)
  | .combine => (64, 0x6, 0xFFFFFFFFFFFFFFFF)
  | .selftest => (64, 0x7, 0xFFFFFFFFFFFFFFFF)
  | .loadPreset _ => (64, 0x8, 0xFFFFFFFFFFFF00FF)
  | .clear => (64, 0x9, 0xFFFFFFFFFFFFFFFF)
  | .rd _ => (16, 0x3000, 0xF007)
  | .wr _ _ => (16, 0xB000, 0xF007)

/-- The instruction of an opcode-table word of `nbits` bits: 16 bits are a bus descriptor (its write data 0), up to 64
bits a command word. -/
def decodeTableWord (nbits w : Nat) : Option Instr :=
  let d := if nbits ≤ 16 then decodeBus (BitVec.ofNat 16 w) 0#64
    else if nbits ≤ 64 then decodeCmd (BitVec.ofNat 64 w)
    else .illegalAccess
  match d with
  | .ok i => some i
  | .illegalCmd _ | .badArg _ | .illegalAccess => none

end Sys2Proof
end

