-- ==== Sys2Proof/Machine/State.lean ====
section
/-! DEFINITION. The state of CRCE as plain data, holding every piece of state the spec names (10_state.md), the host's
side of the bus port, and the reasons a step can stop; and the state right after hardware reset (10_state.md R62). -/

namespace Sys2Proof.Machine

/-- Why a step can stop for good. CRCE itself never stops (60_exceptions.md R250). -/
inductive Fault where
  /-- Raised by the engine's completion step when INFLIGHT holds an OP and ARG that name no command that issues. No run
  from reset reaches it, since only a decoded command is put in flight (43_host_access.md R224). Safe: the model stops
  where the spec describes nothing. -/
  | noSuchCommand
  deriving DecidableEq, Repr

/-- Why an instruction can have no meaning. -/
inductive Refusal where
  /-- Raised by exec's arm of an instruction that has no meaning yet; no arm does. Safe: it only stops. -/
  | notModelled (mnemonic : String)
  deriving DecidableEq, Repr

/-- The 25 registers of the window (10_state.md R20). -/
inductive RegName where
  | id | irqEn | status | cmd | cfg | poly | init | xorout | check | din | raw | digest | count
  | cmbA | cmbB | cmbLen | cmbTag | cmbResult | tblIndex | tblData
  | actCfg | actPoly | actInit | actXorout | actCheck
  deriving DecidableEq, Repr

/-- The error codes of STATUS.ERRCODE (60_exceptions.md R251); codes 8 to 15 are never produced. -/
inductive ErrCode where
  | none | cfgWidth | cfgSelftest | mismatchedSpec | notReady | badArg | illegalCmd | busyViolation
  deriving DecidableEq, Repr

/-- The enable bits of IRQ_EN (10_state.md R24). -/
structure IrqEn where
  doneIe : Bool
  errIe : Bool
  deriving DecidableEq, Repr

/-- The stored fields of STATUS (10_state.md R25). BUSY and IRQ are computed (10_state.md R26, R30). -/
structure Status where
  ready : Bool
  done : Bool
  err : Bool
  errCode : ErrCode
  errOp : Byte
  deriving DecidableEq, Repr

/-- The control fields of CFG and of ACT_CFG (10_state.md R34, R49). -/
structure Ctrl where
  width : Byte
  refin : Bool
  refout : Bool
  specId : Byte
  deriving DecidableEq, Repr

/-- The staging spec: CFG, POLY, INIT, XOROUT and CHECK (10_state.md R34 to R38). -/
structure Spec where
  ctrl : Ctrl
  poly : Word
  init : Word
  xorout : Word
  check : Word
  deriving DecidableEq, Repr

/-- The active spec ACT (10_state.md R48). `w` is ACT.W: 0 after reset, 32 or 64 after a CONFIG that passed the width
check. -/
structure Act where
  ctrl : Ctrl
  w : Nat
  poly : Word
  init : Word
  xorout : Word
  check : Word
  deriving DecidableEq, Repr

/-- SNAP of a command in flight (10_state.md R58): the host-writable registers commands read, as they stood at issue
(30_encoding.md R112, 70_reset_and_hazards.md R299). -/
structure Snap where
  spec : Spec
  din : Word
  cmbA : Word
  cmbB : Word
  cmbLen : Word
  tagA : Byte
  tagB : Byte
  deriving DecidableEq, Repr

/-- INFLIGHT when it is not `none` (10_state.md R58). `raced` is the model's own: the registers the command writes that
the host has written since the issue (70_reset_and_hazards.md R298, log 6). -/
structure InFlight where
  op : Byte
  arg : Byte
  snap : Snap
  remaining : Nat
  raced : List RegName
  deriving DecidableEq, Repr

/-- The answer to a bus request (20_memory.md R71). -/
inductive Response where
  /-- OKAY to a read, with RDATA -/
  | read (rdata : Word)
  /-- OKAY to a write; the spec gives it no RDATA (log 9) -/
  | written
  /-- SLVERR, with its RDATA (20_memory.md R73) -/
  | slverr (rdata : Word)
  /-- the unspecified answer to a request made while `rst_n` is low (70_reset_and_hazards.md R290) -/
  | inReset (slverr : Bool) (rdata : Word)
  deriving DecidableEq, Repr

/-- One statement the host still has to perform: what it does in one cycle of `clk` (log 1, log 2). -/
inductive HostStmt where
  /-- a bus request: its descriptor and write data (30_encoding.md R101) -/
  | request (desc : BitVec 16) (wdata : Word)
  /-- the WAIT of 30_encoding.md R114: read STATUS, and again until BUSY = 0 -/
  | wait
  /-- the EXPECT of 30_encoding.md R114: read the register, and stop with failure if the value is not the one given -/
  | expect (addr : BitVec 12) (val : Word)
  /-- a cycle with no request -/
  | idle
  /-- a cycle with `rst_n` low, and the request made in it, if any (70_reset_and_hazards.md R290) -/
  | rstLow (req : Option (BitVec 16 × Word))
  deriving DecidableEq, Repr

/-- The whole state: CRCE's registers, its hidden state, the host's side of the port, and the model's counter of free
values. INVENTORY.md's State section names the rule of each field. -/
structure State where
  irqEn : IrqEn
  status : Status
  staging : Spec
  din : Word
  reg : Word
  count : Word
  cmbA : Word
  cmbB : Word
  cmbLen : Word
  tagA : Byte
  tagB : Byte
  cmbResult : Word
  tblIndex : Byte
  act : Act
  table : Vector Word 256
  inflight : Option InFlight
  /-- the host's statements still to perform, next first -/
  todo : List HostStmt
  /-- the answers the host has received, newest first (70_reset_and_hazards.md R305) -/
  responses : List Response
  /-- an EXPECT of the host has failed -/
  hostFailed : Bool
  /-- how many free values have been drawn (the model's own, log 20) -/
  free : Nat
  deriving DecidableEq, Repr

/-- The control fields after hardware reset: all 0 (10_state.md R62). -/
def Ctrl.zero : Ctrl := { width := 0#8, refin := false, refout := false, specId := 0#8 }

/-- The machine right after hardware reset (10_state.md R62), with nothing for the host to do. TABLE is unspecified
there; the model's reset state names the value 0 for every entry (log 7). -/
def State.reset : State where
  irqEn := { doneIe := false, errIe := false }
  status := { ready := false, done := false, err := false, errCode := .none, errOp := 0#8 }
  staging := { ctrl := Ctrl.zero, poly := 0#64, init := 0#64, xorout := 0#64, check := 0#64 }
  din := 0#64
  reg := 0#64
  count := 0#64
  cmbA := 0#64
  cmbB := 0#64
  cmbLen := 0#64
  tagA := 0#8
  tagB := 0#8
  cmbResult := 0#64
  tblIndex := 0#8
  act := { ctrl := Ctrl.zero, w := 0, poly := 0#64, init := 0#64, xorout := 0#64, check := 0#64 }
  table := Vector.replicate 256 0#64
  inflight := none
  todo := []
  responses := []
  hostFailed := false
  free := 0

end Sys2Proof.Machine
end

