-- ==== Sys2Proof/Machine/Operands.lean ====
section
/-! DEFINITION. Operand forms: the register map, the field layouts of the registers, the bytes of DIN, the presets, the
snapshot of a command's operands, and which registers a command in flight makes hazardous. -/

namespace Sys2Proof.Machine

/-- The byte offset of a register in the window (10_state.md R20). -/
def RegName.offset : RegName → BitVec 12
  | .id => 0x000#12
  | .irqEn => 0x008#12
  | .status => 0x010#12
  | .cmd => 0x018#12
  | .cfg => 0x020#12
  | .poly => 0x028#12
  | .init => 0x030#12
  | .xorout => 0x038#12
  | .check => 0x040#12
  | .din => 0x048#12
  | .raw => 0x050#12
  | .digest => 0x058#12
  | .count => 0x060#12
  | .cmbA => 0x068#12
  | .cmbB => 0x070#12
  | .cmbLen => 0x078#12
  | .cmbTag => 0x080#12
  | .cmbResult => 0x088#12
  | .tblIndex => 0x090#12
  | .tblData => 0x098#12
  | .actCfg => 0x0A0#12
  | .actPoly => 0x0A8#12
  | .actInit => 0x0B0#12
  | .actXorout => 0x0B8#12
  | .actCheck => 0x0C0#12

/-- The registers in the order of the map (10_state.md R20). -/
def RegName.all : List RegName :=
  [.id, .irqEn, .status, .cmd, .cfg, .poly, .init, .xorout, .check, .din, .raw, .digest, .count,
   .cmbA, .cmbB, .cmbLen, .cmbTag, .cmbResult, .tblIndex, .tblData,
   .actCfg, .actPoly, .actInit, .actXorout, .actCheck]

/-- NAME(addr) of 43_host_access.md R220; none at a reserved offset. -/
def regAt (addr : BitVec 12) : Option RegName := RegName.all.find? (fun r => r.offset == addr)

/-- The physical address of an offset of the window is `CRCE_BASE` plus the offset (20_memory.md R70); the port sees
the offset of an address that lies in the window. -/
def windowOffset (base phys : Nat) : Option (BitVec 12) :=
  if base ≤ phys ∧ phys < base + 4096 then some (BitVec.ofNat 12 (phys - base)) else none

/-- The 4-bit code of an error (60_exceptions.md R251). -/
def ErrCode.bits : ErrCode → BitVec 4
  | .none => 0#4
  | .cfgWidth => 1#4
  | .cfgSelftest => 2#4
  | .mismatchedSpec => 3#4
  | .notReady => 4#4
  | .badArg => 5#4
  | .illegalCmd => 6#4
  | .busyViolation => 7#4

/-- CFG's layout (10_state.md R34): SPEC_ID in [23:16], REFOUT in [9], REFIN in [8], WIDTH in [7:0], 0 elsewhere. -/
def Ctrl.word (c : Ctrl) : Word :=
  (c.specId.setWidth 64 <<< 16) ||| ((BitVec.ofBool c.refout).setWidth 64 <<< 9) |||
    ((BitVec.ofBool c.refin).setWidth 64 <<< 8) ||| c.width.setWidth 64

/-- The fields a write of `v` stores in CFG, `v AND 0x0000_0000_00FF_03FF` (10_state.md R34). -/
def Ctrl.ofWord (v : Word) : Ctrl where
  width := v.extractLsb' 0 8
  refin := v.getLsbD 8
  refout := v.getLsbD 9
  specId := v.extractLsb' 16 8

/-- IRQ_EN's layout (10_state.md R24). -/
def IrqEn.word (e : IrqEn) : Word :=
  ((BitVec.ofBool e.errIe).setWidth 64 <<< 1) ||| (BitVec.ofBool e.doneIe).setWidth 64

/-- The fields a write of `v` stores in IRQ_EN, `v AND 0x3` (10_state.md R24). -/
def IrqEn.ofWord (v : Word) : IrqEn where
  doneIe := v.getLsbD 0
  errIe := v.getLsbD 1

/-- CMB_TAG's layout (10_state.md R46). -/
def tagWord (tagA tagB : Byte) : Word := (tagB.setWidth 64 <<< 8) ||| tagA.setWidth 64

/-- TAG_A of a word written to CMB_TAG (10_state.md R46). -/
def tagAOf (v : Word) : Byte := v.extractLsb' 0 8

/-- TAG_B of a word written to CMB_TAG (10_state.md R46). -/
def tagBOf (v : Word) : Byte := v.extractLsb' 8 8

/-- ID: MAGIC "CRCE" in [31:0], REV 7 in [39:32] (10_state.md R21). -/
def idWord : Word := 0x0000000743524345#64

/-- Byte k of DIN, `DIN[8k+7:8k]` (10_state.md R39). -/
def dinByte (din : Word) (k : Nat) : Byte := din.extractLsb' (8 * k) 8

/-- The bytes UPDATE n consumes, byte 0 first (20_memory.md R75). -/
def dinBytes (din : Word) (n : Nat) : List Byte := (List.range n).map (dinByte din)

/-- The presets of 40_table_builder.md R131: 0 is CRC-32 and 1 is CRC-64/NVMe. -/
def presetSpec (p : Byte) : Spec :=
  if p = 0#8 then
    { ctrl := { width := 32#8, refin := true, refout := false, specId := 0x01#8 }
      poly := 0x00000000EDB88320#64
      init := 0x00000000FFFFFFFF#64
      xorout := 0x00000000FFFFFFFF#64
      check := 0x00000000CBF43926#64 }
  else
    { ctrl := { width := 64#8, refin := true, refout := false, specId := 0x02#8 }
      poly := 0x9A6C9329AC4BC9B5#64
      init := 0xFFFFFFFFFFFFFFFF#64
      xorout := 0xFFFFFFFFFFFFFFFF#64
      check := 0xAE8B14860A799888#64 }

/-- The host-writable registers commands read, as they stand now (30_encoding.md R112). -/
def State.snapshot (s : State) : Snap where
  spec := s.staging
  din := s.din
  cmbA := s.cmbA
  cmbB := s.cmbB
  cmbLen := s.cmbLen
  tagA := s.tagA
  tagB := s.tagB

/-- The operands of a snapshot as register values, in the order of the map: what `LAT` may depend on (00_scope.md R8). -/
def Snap.operands (p : Snap) : List Word :=
  [p.spec.ctrl.word, p.spec.poly, p.spec.init, p.spec.xorout, p.spec.check, p.din, p.cmbA, p.cmbB, p.cmbLen,
   tagWord p.tagA p.tagB]

/-- The registers whose reads are unspecified while the command of this opcode is in flight
(70_reset_and_hazards.md R297). -/
def hazardReads (op : Byte) : List RegName :=
  if op = 0x01#8 then
    [.raw, .digest, .count, .tblData, .actCfg, .actPoly, .actInit, .actXorout, .actCheck]
  else if op = 0x02#8 then [.raw, .digest, .count]
  else if op = 0x03#8 then [.raw, .digest, .count]
  else if op = 0x04#8 then [.cmbA, .cmbTag]
  else if op = 0x05#8 then [.cmbB, .cmbTag, .cmbLen]
  else if op = 0x06#8 then [.cmbResult]
  else if op = 0x08#8 then [.cfg, .poly, .init, .xorout, .check]
  else []

/-- The host-writable registers the command of this opcode writes at completion: a host write to one of them in flight
races it (70_reset_and_hazards.md R298). -/
def hazardWrites (op : Byte) : List RegName :=
  if op = 0x04#8 then [.cmbA, .cmbTag]
  else if op = 0x05#8 then [.cmbB, .cmbTag, .cmbLen]
  else if op = 0x08#8 then [.cfg, .poly, .init, .xorout, .check]
  else []

/-- The command a record in flight holds, decoded from its OP and ARG; none if they name no command that issues. -/
def InFlight.command (f : InFlight) : Option Instr :=
  match decodeCmd (commandWord f.op f.arg) with
  | .ok i => if i.issues then some i else none
  | .illegalCmd _ | .badArg _ | .illegalAccess => none

end Sys2Proof.Machine
end

