-- ==== Sys2Proof/Machine/Crc.lean ====
section
/-! DEFINITION. The arithmetic of CRCE: widths and bit reversal (00_scope.md R11, R12), the table (40_table_builder.md
R133), the byte step (41_engine.md R160), finalisation (00_scope.md R18), the self-test digest (40_table_builder.md R138)
and the combine function with its exponentiation over GF(2) (42_combiner.md R195, R199). -/

namespace Sys2Proof.Machine

/-- `M(W) = 2^W - 1` (00_scope.md R11). -/
def mask (w : Nat) : Word := BitVec.ofNat 64 (2 ^ w - 1)

/-- `rev_W(v)[i] = v[W-1-i]` for i below W, and 0 above (00_scope.md R12). -/
def rev (w : Nat) (v : Word) : Word := v.reverse >>> (64 - w)

/-- One of the 8 shifts of `tbl_entry`, testing the bit about to be shifted out (40_table_builder.md R133). -/
def tblShift (a : Act) (c : Word) : Word :=
  if a.ctrl.refin then
    if c.getLsbD 0 then (c >>> 1) ^^^ a.poly else c >>> 1
  else
    if c.getLsbD (a.w - 1) then ((c <<< 1) &&& mask a.w) ^^^ a.poly else (c <<< 1) &&& mask a.w

/-- The value `tbl_entry` starts from: b in the bits that leave first (40_table_builder.md R133). -/
def tblStart (a : Act) (b : Byte) : Word :=
  if a.ctrl.refin then b.setWidth 64 else (b.setWidth 64 <<< (a.w - 8)) &&& mask a.w

/-- `tbl_entry(b)` (40_table_builder.md R133). -/
def tblEntry (a : Act) (b : Byte) : Word := (tblShift a)^[8] (tblStart a b)

/-- The build phase of CONFIG: `TABLE[b] <- tbl_entry(b)` for every b (40_table_builder.md R136). -/
def buildTable (a : Act) : Vector Word 256 := Vector.ofFn (fun i => tblEntry a (BitVec.ofFin i))

/-- `TABLE[b]`. -/
def tableAt (t : Vector Word 256) (b : Byte) : Word := t.get b.toFin

/-- `step_byte(r, b)` with ACT and TABLE (41_engine.md R160). -/
def stepByte (a : Act) (t : Vector Word 256) (r : Word) (b : Byte) : Word :=
  if a.ctrl.refin then
    tableAt t ((r ^^^ b.setWidth 64).setWidth 8) ^^^ (r >>> 8)
  else
    ((r <<< 8) &&& mask a.w) ^^^ tableAt t (((r >>> (a.w - 8)) ^^^ b.setWidth 64).setWidth 8)

/-- `run(r, S)`: the raw value after the bytes of S, in order (42_combiner.md R194). -/
def runBytes (a : Act) (t : Vector Word 256) (r : Word) (bytes : List Byte) : Word :=
  bytes.foldl (stepByte a t) r

/-- `fin(r)` (00_scope.md R18). -/
def fin (a : Act) (r : Word) : Word := (if a.ctrl.refout then rev a.w r else r) ^^^ a.xorout

/-- `unfin(f)` (00_scope.md R18). -/
def unfin (a : Act) (f : Word) : Word :=
  if a.ctrl.refout then rev a.w (f ^^^ a.xorout) else f ^^^ a.xorout

/-- The check string "123456789" (00_scope.md R19, 40_table_builder.md R138). -/
def checkString : List Byte :=
  [0x31#8, 0x32#8, 0x33#8, 0x34#8, 0x35#8, 0x36#8, 0x37#8, 0x38#8, 0x39#8]

/-- `selftest_digest()` (40_table_builder.md R138). -/
def selftestDigest (a : Act) (t : Vector Word 256) : Word := fin a (runBytes a t a.init checkString)

/-- `zero_byte(r) = step_byte(r, 0x00)` (00_scope.md R17). -/
def zeroByte (a : Act) (t : Vector Word 256) (r : Word) : Word := stepByte a t r 0#8

/-- A matrix over GF(2), as the list of its columns, times a vector: the XOR of column j over every j with `v[j] = 1`
(42_combiner.md R199). -/
def gf2Apply : List Word → Word → Word
  | [], _ => 0#64
  | c :: cs, v => (if v.getLsbD 0 then c else 0#64) ^^^ gf2Apply cs (v >>> 1)

/-- The matrix squared: column j is the matrix times column j. -/
def gf2Square (m : List Word) : List Word := m.map (gf2Apply m)

/-- The matrix Z of `zero_byte`: column j is `zero_byte(1 << j)`, for j below W (42_combiner.md R199). -/
def zeroMatrix (a : Act) (t : Vector Word 256) : List Word :=
  (List.range a.w).map (fun j => zeroByte a t (1#64 <<< j))

/-- `m^n` times v by square and multiply, over the lowest `bits` bits of n (42_combiner.md R199). -/
def gf2PowApply : Nat → List Word → Nat → Word → Word
  | 0, _, _, v => v
  | bits + 1, m, n, v =>
    if n = 0 then v
    else gf2PowApply bits (gf2Square m) (n / 2) (if n % 2 = 1 then gf2Apply m v else v)

/-- `zero_byte^n(v)` for a 64-bit length n, by binary exponentiation of Z (42_combiner.md R199, log 16). -/
def zeroBytes (a : Act) (t : Vector Word 256) (n : Word) (v : Word) : Word :=
  gf2PowApply 64 (zeroMatrix a t) n.toNat v

/-- `comb(a, b, n)` (42_combiner.md R195); a zero length returns the first operand (R197). -/
def comb (a : Act) (t : Vector Word 256) (x y : Word) (n : Word) : Word :=
  if n = 0#64 then x
  else fin a (zeroBytes a t n (unfin a x ^^^ a.init) ^^^ unfin a y)

end Sys2Proof.Machine
end

