-- ==== Sys2Proof/Config.lean ====
section
/-! DEFINITION. What an implementation fixes and the spec leaves open: the OPEN parameters of
92_eei_decisions.md and the free values of 93_implementation_defined.md. Every constant here is opaque, so a
theorem of the model holds whatever its value is. -/

namespace Sys2Proof

/-- Which of the five values SLICE_N has (00_scope.md R8). Free choice of the implementation, log 26. -/
opaque Config.sliceChoice : Fin 5

/-- `SLICE_N`, one of 1, 2, 4, 8 and 16 (00_scope.md R8, 93 U18). It affects only `LAT` (40_table_builder.md R137). -/
def Config.sliceN : Nat := 2 ^ Config.sliceChoice.val

/-- `LAT(op) - 1` (00_scope.md R8, 70_reset_and_hazards.md R302): of an implementation with the given SLICE_N, at the
k-th draw, for the command of OPCODE `op` and ARG `arg` on the given operands. Free value, log 4. -/
opaque Config.extraCycles (sliceN k : Nat) (op arg : Byte) (operands : List Word) : Nat

/-- The value of the k-th draw of a read that 70_reset_and_hazards.md R297 calls unspecified. Free value, log 5. -/
opaque Config.unspecifiedRead : Nat → Word

/-- Of a host write that raced a completion (70_reset_and_hazards.md R298), at the k-th draw and for the register at
the offset: did the write take effect after the completion? Free choice, log 6. -/
opaque Config.writeAfter : Nat → BitVec 12 → Bool

/-- Entry i of TABLE after a hardware reset, at the k-th draw (10_state.md R62, 93 U1). Free value, log 7. -/
opaque Config.tableAfterReset : Nat → Nat → Word

/-- RESP of the answer to a request made while `rst_n` is low (70_reset_and_hazards.md R290, 93 U5).
Free value, log 8. -/
opaque Config.respInReset : Nat → Bool

/-- RDATA of the answer to a request made while `rst_n` is low. Free value, log 8. -/
opaque Config.rdataInReset : Nat → Word

/-- The page number of the platform's choice of `CRCE_BASE` (20_memory.md R70). Free value, log 21. -/
opaque Config.crcePage : Nat

/-- `LAT` of a command issued at the k-th draw: a positive number of cycles, per command, per operand and per issue
(00_scope.md R8, 70_reset_and_hazards.md R299, R302). -/
def Config.latency (k : Nat) (op arg : Byte) (operands : List Word) : Nat :=
  Config.extraCycles Config.sliceN k op arg operands + 1

/-- `CRCE_BASE`, the physical base of the register window, aligned to 4096 (20_memory.md R70). -/
def Config.crceBase : Nat := 4096 * Config.crcePage

end Sys2Proof
end

