-- ==== Sys2Proof/Machine/Flags.lean ====
section
/-! DEFINITION. The flags of STATUS (10_state.md R25 to R32, R61) and the interrupt output (60_exceptions.md R267). -/

namespace Sys2Proof.Machine

/-- STATUS.BUSY: 1 exactly while INFLIGHT is not `none` (10_state.md R26). -/
def State.busy (s : State) : Bool := s.inflight.isSome

/-- STATUS.IRQ and the output `irq` (10_state.md R30, 60_exceptions.md R267). -/
def State.irq (s : State) : Bool :=
  (s.status.done && s.irqEn.doneIe) || (s.status.err && s.irqEn.errIe)

/-- The word a read of STATUS returns (10_state.md R25): ERR_OP [23:16], ERRCODE [11:8], IRQ [4], ERR [3], DONE [2],
READY [1], BUSY [0], 0 elsewhere. -/
def State.statusWord (s : State) : Word :=
  (s.status.errOp.setWidth 64 <<< 16) ||| (s.status.errCode.bits.setWidth 64 <<< 8) |||
    ((BitVec.ofBool s.irq).setWidth 64 <<< 4) ||| ((BitVec.ofBool s.status.err).setWidth 64 <<< 3) |||
    ((BitVec.ofBool s.status.done).setWidth 64 <<< 2) ||| ((BitVec.ofBool s.status.ready).setWidth 64 <<< 1) |||
    (BitVec.ofBool s.busy).setWidth 64

/-- Recording an error in the flags (60_exceptions.md R255): the first error since the last CLEAR is kept. -/
def Status.record (e : ErrCode) (op : Byte) (st : Status) : Status :=
  if st.err then st else { st with err := true, errCode := e, errOp := op }

/-- The flags after CLEAR (43_host_access.md R222). -/
def Status.cleared (st : Status) : Status :=
  { st with done := false, err := false, errCode := .none, errOp := 0#8 }

end Sys2Proof.Machine
end

