-- ==== Sys2Proof/Machine/Ops.lean ====
section
/-! DEFINITION. The shared operations on the state: taking an error and returning from one (60_exceptions.md), issuing a
command and carrying it out (70_reset_and_hazards.md R299), the hazards, the bus answer, the clock, hardware reset. -/

namespace Sys2Proof.Machine

/-- `record(E, op)` of 60_exceptions.md R255: CRCE's whole "trap entry" (R264). -/
def State.record (e : ErrCode) (op : Byte) (s : State) : State :=
  { s with status := s.status.record e op }

/-- A command's completion: `STATUS.DONE <- 1; INFLIGHT <- none; STATUS.BUSY <- 0` (60_exceptions.md R255). It uses up
one draw of the model's free values (log 20). -/
def State.finish (s : State) : State :=
  { s with status := { s.status with done := true }, inflight := none, free := s.free + 1 }

/-- `raise E(op)` inside a command (00_scope.md R15, 60_exceptions.md R255): record, and complete the command. -/
def State.raise (e : ErrCode) (op : Byte) (s : State) : State := (s.record e op).finish

/-- An error of decoding at the CMD write (43_host_access.md R224): record, and set DONE; nothing issues. -/
def State.rejectWord (e : ErrCode) (op : Byte) (s : State) : State :=
  { s with status := { s.status.record e op with done := true } }

/-- The return from an error (60_exceptions.md R266): what CLEAR does (43_host_access.md R222). -/
def State.clearSticky (s : State) : State := { s with status := s.status.cleared }

/-- The "at issue" step of the command of OPCODE `op` and ARG `arg` (70_reset_and_hazards.md R299): snapshot the operands,
draw `LAT`, set BUSY; CONFIG also clears READY (40_table_builder.md R135). -/
def State.issue (op arg : Byte) (s : State) : State :=
  { s with
    status := { s.status with ready := s.status.ready && op != 0x01#8 }
    inflight := some
      { op := op, arg := arg, snap := s.snapshot
        remaining := Config.latency s.free op arg s.snapshot.operands, raced := [] }
    free := s.free + 1 }

/-- Carrying out the command of OPCODE `op` and ARG `arg`. In flight, it is the "at completion" step on the snapshot
(70_reset_and_hazards.md R299). With nothing in flight it is the command issued and completed at once, on the registers as
they stand (log 3). With another command in flight the word is refused (60_exceptions.md R259). -/
def State.carryOut (op arg : Byte) (atCompletion : Snap → State → State) (s : State) : State :=
  match s.inflight with
  | none => atCompletion s.snapshot s
  | some f => if f.op = op ∧ f.arg = arg then atCompletion f.snap s else s.record .busyViolation op

/-- The READY gate (40_table_builder.md R142): with READY = 0 the command raises NOT_READY and changes nothing else. -/
def State.ifReady (op : Byte) (run : State → State) (s : State) : State :=
  if s.status.ready then run s else s.raise .notReady op

/-- Has a host write raced the command in flight at this register? -/
def State.isRaced (r : RegName) (s : State) : Bool :=
  match s.inflight with
  | none => false
  | some f => decide (r ∈ f.raced)

/-- The value register `r` holds after the completion, where `live` is what it holds before and `new` what the command
writes: a raced host write took effect either before the completion or after it (70_reset_and_hazards.md R298). -/
def State.landing {α : Type} (r : RegName) (live new : α) (s : State) : α :=
  if s.isRaced r && Config.writeAfter s.free r.offset then live else new

/-- Note that the host wrote `r` while a command was in flight that writes it too (70_reset_and_hazards.md R298). -/
def State.noteRace (r : RegName) (s : State) : State :=
  match s.inflight with
  | none => s
  | some f =>
    if r ∈ hazardWrites f.op ∧ r ∉ f.raced then
      { s with inflight := some { f with raced := r :: f.raced } }
    else s

/-- Is a read of `r` unspecified now (70_reset_and_hazards.md R297)? -/
def State.readUnspecified (r : RegName) (s : State) : Bool :=
  match s.inflight with
  | none => false
  | some f => decide (r ∈ hazardReads f.op)

/-- Answer the host's bus request (20_memory.md R71). -/
def State.respond (r : Response) (s : State) : State := { s with responses := r :: s.responses }

/-- The host's statements still to perform become `l`. -/
def State.setTodo (l : List HostStmt) (s : State) : State := { s with todo := l }

/-- The command whose completion is due in this cycle: REMAINING reaches 0 (70_reset_and_hazards.md R299). -/
def State.due (s : State) : Option InFlight :=
  match s.inflight with
  | none => none
  | some f => if f.remaining ≤ 1 then some f else none

/-- One cycle of `clk` for a command that is not due: REMAINING falls by 1 (70_reset_and_hazards.md R299). -/
def State.tick (s : State) : State :=
  match s.inflight with
  | none => s
  | some f => { s with inflight := some { f with remaining := f.remaining - 1 } }

/-- TABLE after a hardware reset: 256 unspecified entries (10_state.md R62, log 7). -/
def tableAfterReset (k : Nat) : Vector Word 256 := Vector.ofFn (fun i => Config.tableAfterReset k i.val)

/-- Hardware reset (70_reset_and_hazards.md R291): every element of CRCE takes its reset value, the command in flight is
abandoned, TABLE is unspecified. The host's side of the port and the counter of free values are no state of CRCE. -/
def State.hardReset (s : State) : State :=
  { State.reset with
    table := tableAfterReset s.free
    todo := s.todo
    responses := s.responses
    hostFailed := s.hostFailed
    free := s.free + 1 }

/-- The host's stop with failure (30_encoding.md R114 EXPECT): it performs no further statement. -/
def State.hostStop (s : State) : State := { s with todo := [], hostFailed := true }

end Sys2Proof.Machine
end

