-- ==== Sys2Proof/Machine/Combiner.lean ====
section
/-! DEFINITION. The combiner family: CAPTURE_A, CAPTURE_B and COMBINE (42_combiner.md). -/

namespace Sys2Proof.Machine

/-- CAPTURE_A at completion, past the READY gate (42_combiner.md R191); a raced host write of CMB_A or CMB_TAG may take
effect after it (70_reset_and_hazards.md R298). -/
def captureARuns (s : State) : State :=
  State.finish
    { s with
      cmbA := s.landing .cmbA s.cmbA (fin s.act s.reg)
      tagA := s.landing .cmbTag s.tagA s.act.ctrl.specId }

/-- CAPTURE_A (42_combiner.md R191). -/
def execCaptureA (s : State) : Host.Outcome State Fault Refusal :=
  .next (s.carryOut 0x04#8 0#8 (fun _ => State.ifReady 0x04#8 captureARuns))

/-- CAPTURE_B at completion, past the READY gate (42_combiner.md R193); a raced host write of CMB_B, CMB_TAG or CMB_LEN may
take effect after it (70_reset_and_hazards.md R298). -/
def captureBRuns (s : State) : State :=
  State.finish
    { s with
      cmbB := s.landing .cmbB s.cmbB (fin s.act s.reg)
      tagB := s.landing .cmbTag s.tagB s.act.ctrl.specId
      cmbLen := s.landing .cmbLen s.cmbLen s.count }

/-- CAPTURE_B (42_combiner.md R193). -/
def execCaptureB (s : State) : Host.Outcome State Fault Refusal :=
  .next (s.carryOut 0x05#8 0#8 (fun _ => State.ifReady 0x05#8 captureBRuns))

/-- COMBINE at completion, past the READY gate: the tag check comes before the length test (42_combiner.md R196,
60_exceptions.md R262). -/
def combineRuns (snap : Snap) (s : State) : State :=
  if snap.tagA = s.act.ctrl.specId ∧ snap.tagB = s.act.ctrl.specId then
    State.finish
      { s with
        cmbResult := comb s.act s.table (snap.cmbA &&& mask s.act.w) (snap.cmbB &&& mask s.act.w) snap.cmbLen }
  else s.raise .mismatchedSpec 0x06#8

/-- COMBINE (42_combiner.md R196). -/
def execCombine (s : State) : Host.Outcome State Fault Refusal :=
  .next (s.carryOut 0x06#8 0#8 (fun snap => State.ifReady 0x06#8 (combineRuns snap)))

end Sys2Proof.Machine
end

