-- ==== Sys2Proof/Machine/Engine.lean ====
section
/-! DEFINITION. The checksum engine family: UPDATE, RESET and NOP (41_engine.md). -/

namespace Sys2Proof.Machine

/-- UPDATE n at completion, past the READY gate: the first n bytes of the snapshot of DIN, byte 0 first
(41_engine.md R161). -/
def updateRuns (nbytes : Byte) (snap : Snap) (s : State) : State :=
  State.finish
    { s with
      reg := runBytes s.act s.table s.reg (dinBytes snap.din nbytes.toNat)
      count := s.count + nbytes.setWidth 64 }

/-- UPDATE n at completion (41_engine.md R161). An NBYTES above 8 never issues; a term with one is the BAD_ARG of
60_exceptions.md R257 (log 13). -/
def updateCompletes (nbytes : Byte) (snap : Snap) (s : State) : State :=
  if 8 < nbytes.toNat then s.raise .badArg 0x03#8
  else s.ifReady 0x03#8 (updateRuns nbytes snap)

/-- UPDATE n (41_engine.md R161). -/
def execUpdate (nbytes : Byte) (s : State) : Host.Outcome State Fault Refusal :=
  .next (s.carryOut 0x03#8 nbytes (updateCompletes nbytes))

/-- RESET at completion, past the READY gate (41_engine.md R163). -/
def resetRuns (s : State) : State := State.finish { s with reg := s.act.init, count := 0#64 }

/-- RESET, the command; it is not hardware reset (41_engine.md R163, 70_reset_and_hazards.md R293). -/
def execReset (s : State) : Host.Outcome State Fault Refusal :=
  .next (s.carryOut 0x02#8 0#8 (fun _ => State.ifReady 0x02#8 resetRuns))

/-- NOP: nothing but completing (41_engine.md R165). -/
def execNop (s : State) : Host.Outcome State Fault Refusal :=
  .next (s.carryOut 0x00#8 0#8 (fun _ => State.finish))

end Sys2Proof.Machine
end

