-- ==== Sys2Proof/Machine/HostAccess.lean ====
section
/-! DEFINITION. The host access family: RD, WR, the CMD write and CLEAR (43_host_access.md). -/

namespace Sys2Proof.Machine

/-- `x[NAME]`, the exact value of a register (10_state.md R20 to R55). CMD reads 0 (43_host_access.md R225); DIGEST and
TBL_DATA read 0 while READY = 0 (10_state.md R41, R55). -/
def State.regValue (s : State) : RegName → Word
  | .id => idWord
  | .irqEn => s.irqEn.word
  | .status => s.statusWord
  | .cmd => 0#64
  | .cfg => s.staging.ctrl.word
  | .poly => s.staging.poly
  | .init => s.staging.init
  | .xorout => s.staging.xorout
  | .check => s.staging.check
  | .din => s.din
  | .raw => s.reg
  | .digest => if s.status.ready then fin s.act s.reg else 0#64
  | .count => s.count
  | .cmbA => s.cmbA
  | .cmbB => s.cmbB
  | .cmbLen => s.cmbLen
  | .cmbTag => tagWord s.tagA s.tagB
  | .cmbResult => s.cmbResult
  | .tblIndex => s.tblIndex.setWidth 64
  | .tblData => if s.status.ready then tableAt s.table s.tblIndex else 0#64
  | .actCfg => s.act.ctrl.word
  | .actPoly => s.act.poly
  | .actInit => s.act.init
  | .actXorout => s.act.xorout
  | .actCheck => s.act.check

/-- A read of a register: its exact value, or, where the command in flight makes it unspecified, a free value drawn for
this read (70_reset_and_hazards.md R297, log 5). -/
def State.readReg (r : RegName) (s : State) : State :=
  if s.readUnspecified r then
    State.respond (.read (Config.unspecifiedRead s.free)) { s with free := s.free + 1 }
  else s.respond (.read (s.regValue r))

/-- RD (43_host_access.md R220): SLVERR at a misaligned offset, 0 at a reserved one. -/
def execRd (addr : BitVec 12) (s : State) : Host.Outcome State Fault Refusal :=
  if addr.toNat % 8 = 0 then
    match regAt addr with
    | some r => .next (s.readReg r)
    | none => .next (s.respond (.read 0#64))
  else .next (s.respond (.slverr 0#64))

/-- `present(v)`: a write of v to CMD (43_host_access.md R224). -/
def State.present (v : Word) (s : State) : State :=
  if s.busy then s.record .busyViolation (opcodeOf v)
  else
    match decodeCmd v with
    | .illegalCmd op => s.rejectWord .illegalCmd op
    | .badArg op => s.rejectWord .badArg op
    | .illegalAccess => s
    | .ok i => if i.issues then s.issue (opcodeOf v) (argOf v) else s.clearSticky

/-- What a write of v stores in a register that stores writes; nothing in a read-only one (43_host_access.md R221,
R223). -/
def State.storeReg (r : RegName) (v : Word) (s : State) : State :=
  match r with
  | .irqEn => { s with irqEn := IrqEn.ofWord v }
  | .cfg => { s with staging := { s.staging with ctrl := Ctrl.ofWord v } }
  | .poly => { s with staging := { s.staging with poly := v } }
  | .init => { s with staging := { s.staging with init := v } }
  | .xorout => { s with staging := { s.staging with xorout := v } }
  | .check => { s with staging := { s.staging with check := v } }
  | .din => { s with din := v }
  | .cmbA => { s with cmbA := v }
  | .cmbB => { s with cmbB := v }
  | .cmbLen => { s with cmbLen := v }
  | .cmbTag => { s with tagA := tagAOf v, tagB := tagBOf v }
  | .tblIndex => { s with tblIndex := v.setWidth 8 }
  | .id | .status | .cmd | .raw | .digest | .count | .cmbResult | .tblData
  | .actCfg | .actPoly | .actInit | .actXorout | .actCheck => s

/-- A write of v to a register: CMD is presented the word; any other register stores what it stores, and the write is
noted where it races the command in flight (43_host_access.md R221, 70_reset_and_hazards.md R298). -/
def State.writeReg (r : RegName) (v : Word) (s : State) : State :=
  if r = .cmd then s.present v else (s.storeReg r v).noteRace r

/-- WR (43_host_access.md R221): SLVERR at a misaligned offset, ignored at a reserved one. -/
def execWr (addr : BitVec 12) (data : Word) (s : State) : Host.Outcome State Fault Refusal :=
  if addr.toNat % 8 = 0 then
    match regAt addr with
    | some r => .next ((s.writeReg r data).respond .written)
    | none => .next (s.respond .written)
  else .next (s.respond (.slverr 0#64))

/-- CLEAR (43_host_access.md R222), performed at the CMD write: with a command in flight it is refused and nothing is
cleared. -/
def execClear (s : State) : Host.Outcome State Fault Refusal :=
  .next (if s.busy then s.record .busyViolation 0x09#8 else s.clearSticky)

end Sys2Proof.Machine
end

