-- ==== Sys2Proof/Machine/TableBuilder.lean ====
section
/-! DEFINITION. The table builder family: CONFIG, LOAD_PRESET and SELFTEST (40_table_builder.md). -/

namespace Sys2Proof.Machine

/-- Is this WIDTH one CONFIG accepts (40_table_builder.md R139)? -/
def widthLegal (width : Byte) : Bool := width = 32#8 || width = 64#8

/-- ACT as CONFIG latches a spec of a legal width: every value masked to W bits (40_table_builder.md R135). -/
def Act.latch (sp : Spec) : Act where
  ctrl := sp.ctrl
  w := sp.ctrl.width.toNat
  poly := sp.poly &&& mask sp.ctrl.width.toNat
  init := sp.init &&& mask sp.ctrl.width.toNat
  xorout := sp.xorout &&& mask sp.ctrl.width.toNat
  check := sp.check &&& mask sp.ctrl.width.toNat

/-- ACT as CONFIG latches a spec of an unsupported width: unmasked, and ACT.W is not written (40_table_builder.md R135,
R139; 93 U20, log 15). -/
def Act.latchUnmasked (sp : Spec) (old : Act) : Act where
  ctrl := sp.ctrl
  w := old.w
  poly := sp.poly
  init := sp.init
  xorout := sp.xorout
  check := sp.check

/-- What every CONFIG writes before its width check: REG and COUNT are 0 and READY, cleared at issue, is 0
(40_table_builder.md R135). -/
def State.configStart (s : State) : State :=
  { s with status := { s.status with ready := false }, reg := 0#64, count := 0#64 }

/-- The state after CONFIG has latched a spec of a legal width and built its table (40_table_builder.md R135, R136). -/
def State.configBuilt (sp : Spec) (s : State) : State :=
  { s.configStart with act := Act.latch sp, table := buildTable (Act.latch sp) }

/-- CONFIG's engine initialisation (40_table_builder.md R140). -/
def State.engineInit (s : State) : State :=
  { s with reg := s.act.init, count := 0#64, status := { s.status with ready := true } }

/-- CONFIG at completion (40_table_builder.md R135, R139, R140). -/
def configCompletes (snap : Snap) (s : State) : State :=
  if widthLegal snap.spec.ctrl.width then
    let built := s.configBuilt snap.spec
    if selftestDigest built.act built.table = built.act.check then built.engineInit.finish
    else built.raise .cfgSelftest 0x01#8
  else
    State.raise .cfgWidth 0x01#8 { s.configStart with act := Act.latchUnmasked snap.spec s.act }

/-- CONFIG (40_table_builder.md R135). -/
def execConfig (s : State) : Host.Outcome State Fault Refusal :=
  .next (s.carryOut 0x01#8 0#8 configCompletes)

/-- The staging registers after a LOAD_PRESET of `sp`: each is the preset's value, unless a host write that raced the
command took effect after it (40_table_builder.md R143, 70_reset_and_hazards.md R298). -/
def State.presetLands (sp : Spec) (s : State) : Spec where
  ctrl := s.landing .cfg s.staging.ctrl sp.ctrl
  poly := s.landing .poly s.staging.poly sp.poly
  init := s.landing .init s.staging.init sp.init
  xorout := s.landing .xorout s.staging.xorout sp.xorout
  check := s.landing .check s.staging.check sp.check

/-- LOAD_PRESET at completion (40_table_builder.md R143). A PRESET above 1 never issues; a term with one is the BAD_ARG of
60_exceptions.md R257 (log 13). -/
def loadPresetCompletes (preset : Byte) (s : State) : State :=
  if 1 < preset.toNat then s.raise .badArg 0x08#8
  else State.finish { s with staging := s.presetLands (presetSpec preset) }

/-- LOAD_PRESET p (40_table_builder.md R143). -/
def execLoadPreset (preset : Byte) (s : State) : Host.Outcome State Fault Refusal :=
  .next (s.carryOut 0x08#8 preset (fun _ => loadPresetCompletes preset))

/-- SELFTEST at completion, past the READY gate (40_table_builder.md R144). -/
def selftestRuns (s : State) : State :=
  if selftestDigest s.act s.table = s.act.check then s.finish
  else State.raise .cfgSelftest 0x07#8 { s with status := { s.status with ready := false } }

/-- SELFTEST (40_table_builder.md R144). -/
def execSelftest (s : State) : Host.Outcome State Fault Refusal :=
  .next (s.carryOut 0x07#8 0#8 (fun _ => State.ifReady 0x07#8 selftestRuns))

end Sys2Proof.Machine
end

