-- ==== Sys2Proof/Machine/Dispatch.lean ====
section
/-! DEFINITION. One arm per instruction. A command's arm carries the command out: it is what its completion step does when
the command is in flight. The arms of RD and WR perform the bus access. -/

namespace Sys2Proof.Machine

def exec (i : Instr) (s : State) : Host.Outcome State Fault Refusal :=
  match i with
  | .nop => Sys2Proof.Machine.execNop s
  | .config => Sys2Proof.Machine.execConfig s
  | .reset => Sys2Proof.Machine.execReset s
  | .update nbytes => Sys2Proof.Machine.execUpdate nbytes s
  | .captureA => Sys2Proof.Machine.execCaptureA s
  | .captureB => Sys2Proof.Machine.execCaptureB s
  | .combine => Sys2Proof.Machine.execCombine s
  | .selftest => Sys2Proof.Machine.execSelftest s
  | .loadPreset preset => Sys2Proof.Machine.execLoadPreset preset s
  | .clear => Sys2Proof.Machine.execClear s
  | .rd addr => Sys2Proof.Machine.execRd addr s
  | .wr addr data => Sys2Proof.Machine.execWr addr data s

end Sys2Proof.Machine
end

