-- ==== Sys2Proof/Machine/Cycle.lean ====
section
/-! DEFINITION. One step of the two agents (00_scope.md R9): which of them moves, and what the host's next statement does.
A step is a completion of the command in flight, or else one cycle of `clk` with at most one statement of the host
(log 2). -/

namespace Sys2Proof.Machine

/-- A bus request in a cycle: the access its descriptor decodes to, or SLVERR with no effect (20_memory.md R73). -/
def hostRequest (desc : BitVec 16) (wdata : Word) (s : State) : Host.Outcome State Fault Refusal :=
  match decodeBus desc wdata with
  | .ok i => exec i s
  | .illegalCmd _ | .badArg _ | .illegalAccess => .next (s.respond (.slverr 0#64))

/-- The host stops with failure if the value it has just read is not `val` (30_encoding.md R114 EXPECT). -/
def hostExpects (val : Word) (s : State) : State :=
  if s.responses.head? = some (.read val) then s else s.hostStop

/-- The host's next statement, in a cycle with `rst_n` high and no completion due. With none left it lets the cycle pass
(60_exceptions.md R275). A WAIT stays the next statement while BUSY = 1 (30_encoding.md R114). -/
def hostStep (s : State) : Host.Outcome State Fault Refusal :=
  match s.todo with
  | [] => .next s
  | .request desc wdata :: rest => hostRequest desc wdata (s.setTodo rest)
  | .wait :: rest => exec (.rd RegName.status.offset) (if s.busy then s else s.setTodo rest)
  | .expect addr val :: rest =>
    match exec (.rd addr) (s.setTodo rest) with
    | .next t => .next (hostExpects val t)
    | .fault r => .fault r
    | .refused r => .refused r
  | .idle :: rest => .next (s.setTodo rest)
  | .rstLow _ :: _ => .next s

/-- A cycle with `rst_n` low: hardware reset, and an unspecified answer to the request made in it, if any
(70_reset_and_hazards.md R290, R291). -/
def resetCycle (req : Option (BitVec 16 × Word)) (rest : List HostStmt) (s : State) : State :=
  match req with
  | none => s.hardReset.setTodo rest
  | some _ =>
    (s.hardReset.setTodo rest).respond (.inReset (Config.respInReset s.free) (Config.rdataInReset s.free))

/-- The engine's completion step: the command in flight is carried out (70_reset_and_hazards.md R299). -/
def engineStep (f : InFlight) (s : State) : Host.Outcome State Fault Refusal :=
  match f.command with
  | some i => exec i s
  | none => .fault .noSuchCommand

/-- Hardware reset comes before everything, and a completion due before the request of its cycle (60_exceptions.md R263). -/
def cycle (s : State) : Host.Outcome State Fault Refusal :=
  match s.todo with
  | .rstLow req :: rest => .next (resetCycle req rest s)
  | [] | .request _ _ :: _ | .wait :: _ | .expect _ _ :: _ | .idle :: _ =>
    match s.due with
    | some f => engineStep f s
    | none => hostStep s.tick

/-- `s` with its command in flight, if one is due, held one cycle longer, so that the host moves next. -/
def State.hostNext (s : State) : State :=
  match s.due with
  | none => s
  | some f => { s with inflight := some { f with remaining := 2 } }

/-- `s` with the command of OPCODE `op` and ARG `arg` issued and due at once, and `rst_n` high in this cycle. -/
def State.placeCommand (op arg : Byte) (s : State) : State :=
  { s with
    status := { s.status with ready := s.status.ready && op != 0x01#8 }
    inflight := some { op := op, arg := arg, snap := s.snapshot, remaining := 1, raced := [] }
    todo := match s.todo with
      | .rstLow req :: rest => .idle :: .rstLow req :: rest
      | [] => []
      | st :: rest => st :: rest }

/-- `s` with a bus request as the host's next statement. -/
def State.placeRequest (desc : BitVec 16) (wdata : Word) (s : State) : State :=
  s.hostNext.setTodo (.request desc wdata :: s.todo)

/-- `s` with an opcode-table word placed so that the next step runs it: a bus descriptor as the host's next request; the
word of a command that issues as the command in flight, due at once; any other command word as the host's next write to
CMD (log 25). -/
def State.placeTableWord (nbits w : Nat) (s : State) : State :=
  if nbits ≤ 16 then s.placeRequest (BitVec.ofNat 16 w) 0#64
  else
    match decodeTableWord nbits w with
    | some i =>
      if i.issues then s.placeCommand (opcodeOf (BitVec.ofNat 64 w)) (argOf (BitVec.ofNat 64 w))
      else s.placeRequest (busDesc true RegName.cmd.offset) (BitVec.ofNat 64 w)
    | none => s.placeRequest (busDesc true RegName.cmd.offset) (BitVec.ofNat 64 w)

end Sys2Proof.Machine
end

