-- ==== Sys2Proof/Machine/Step.lean ====
section
/-! DEFINITION. The step function, and the placing of one instruction so that the next step runs it. -/

namespace Sys2Proof.Machine

/-- One step: a completion of the command in flight, or one cycle with at most one statement of the host. -/
def step (s : State) : Host.Outcome State Fault Refusal := cycle s

/-- `s` with the opcode-table word `w` of `nbits` bits placed where the next step takes its instruction from. -/
def State.withFetchWord (s : State) (nbits w : Nat) : State := s.placeTableWord nbits w

end Sys2Proof.Machine
end

