-- ==== Sys2Proof/Machine/Assembler.lean ====
section
/-! DEFINITION. The host's assembly language (30_encoding.md R113, R114): statements and pseudo-instructions, and the list of
bus requests and waits each stands for. `label:` serves only WAIT's own loop, which is a statement of the host here
(log 12). -/

namespace Sys2Proof.Machine

/-- A host program (30_encoding.md R113, R114). -/
inductive Asm where
  /-- the empty program -/
  | skip
  /-- one program after another -/
  | seq (first second : Asm)
  /-- `RD NAME` -/
  | rd (r : RegName)
  /-- `WR NAME, imm` -/
  | wr (r : RegName) (imm : Word)
  /-- `CMD MNEMONIC [arg]` -/
  | cmd (i : Instr)
  /-- `CMDW imm` -/
  | cmdw (imm : Word)
  /-- `REPEAT k` of the enclosed program -/
  | loop (k : Nat) (body : Asm)
  /-- pseudo-instruction `WAIT` -/
  | wait
  /-- pseudo-instruction `ISSUE MNEMONIC [arg]` -/
  | issue (i : Instr)
  /-- pseudo-instruction `PRESET p` -/
  | preset (p : Byte)
  /-- pseudo-instruction `FEED imm, n` -/
  | feed (imm : Word) (n : Byte)
  /-- pseudo-instruction `EXPECT NAME, val` -/
  | expect (r : RegName) (val : Word)
  deriving DecidableEq, Repr

/-- `RD NAME` as a bus request. -/
def asmRd (r : RegName) : HostStmt := .request (busDesc false r.offset) 0#64

/-- `WR NAME, imm` as a bus request. -/
def asmWr (r : RegName) (imm : Word) : HostStmt := .request (busDesc true r.offset) imm

/-- `CMD MNEMONIC [arg]`: the write of the legal command word to CMD; the assembler refuses any other argument, and a bus
access is no command (30_encoding.md R113). -/
def asmCmd (i : Instr) : Option HostStmt :=
  match encode i with
  | .command v => if i.wellFormed then some (asmWr .cmd v) else none
  | .bus _ _ => none

/-- `ISSUE MNEMONIC [arg]`: `CMD` then `WAIT` (30_encoding.md R114). -/
def asmIssue (i : Instr) : Option (List HostStmt) := (asmCmd i).map (fun c => [c, .wait])

/-- The statements a program stands for, next first; none where the assembler refuses it (30_encoding.md R113, R114). -/
def assemble : Asm → Option (List HostStmt)
  | .skip => some []
  | .seq first second => do return (← assemble first) ++ (← assemble second)
  | .rd r => some [asmRd r]
  | .wr r imm => some [asmWr r imm]
  | .cmd i => (asmCmd i).map (fun c => [c])
  | .cmdw imm => some [asmWr .cmd imm]
  | .loop k body => (assemble body).map (fun l => (List.replicate k l).flatten)
  | .wait => some [.wait]
  | .issue i => asmIssue i
  | .preset p => do return (← asmIssue (.loadPreset p)) ++ (← asmIssue .config)
  | .feed imm n => (asmIssue (.update n)).map (fun l => asmWr .din imm :: l)
  | .expect r val => some [.expect r.offset val]

/-- A program loaded into a host that has nothing else to do (log 1). -/
def State.load (p : Asm) (s : State) : Option State := (assemble p).map (fun l => { s with todo := l })

end Sys2Proof.Machine
end

