-- ==== Sys2Proof/Safety.lean ====
section
/-! DEFINITION. What counts as a safe state and a safe run: the invariants the spec gives CRCE (10_state.md R63,
60_exceptions.md R255), the end of a run and its observation (70_reset_and_hazards.md R305), and the writes software must
avoid (70_reset_and_hazards.md R298). -/

namespace Sys2Proof.Machine

/-- `v < 2^W`: every bit from W up is 0. -/
abbrev Fits (w : Nat) (v : Word) : Prop := v &&& mask w = v

/-- STATUS.ERR = 0 exactly when STATUS.ERRCODE = 0, and then STATUS.ERR_OP = 0 (60_exceptions.md R255). -/
structure ErrConsistent (st : Status) : Prop where
  err_iff : st.err = false ↔ st.errCode = .none
  op_zero : st.errCode = .none → st.errOp = 0#8

/-- The fields of an active spec that a CONFIG has accepted: ACT.W is 32 or 64 and is WIDTH, and every value is below
2^W (10_state.md R48, R63). -/
structure ActLegal (a : Act) : Prop where
  width : a.w = 32 ∨ a.w = 64
  w_eq : a.w = a.ctrl.width.toNat
  poly : Fits a.w a.poly
  init : Fits a.w a.init
  xorout : Fits a.w a.xorout
  check : Fits a.w a.check

/-- What holds while STATUS.READY = 1 (10_state.md R63). -/
structure Configured (s : State) : Prop where
  act : ActLegal s.act
  table : s.table = buildTable s.act
  selftest : selftestDigest s.act s.table = s.act.check
  reg : Fits s.act.w s.reg

/-- What holds of a command in flight: OP and ARG are those of a command that issues, at least one cycle remains
(70_reset_and_hazards.md R299), and only registers it writes are raced. -/
structure InFlightLegal (f : InFlight) : Prop where
  command : f.command.isSome = true
  remaining : 1 ≤ f.remaining
  raced : ∀ r ∈ f.raced, r ∈ hazardWrites f.op

/-- The invariant of CRCE: the error record is consistent; while READY = 1 the engine is configured; a command in flight
is a legal one, and READY = 0 while it is a CONFIG (10_state.md R27). -/
structure Inv (s : State) : Prop where
  err : ErrConsistent s.status
  ready : s.status.ready = true → Configured s
  inflight : ∀ f, s.inflight = some f → InFlightLegal f
  config : ∀ f, s.inflight = some f → f.op = 0x01#8 → s.status.ready = false

/-- The end of a run: the host has performed its last statement and BUSY = 0 (70_reset_and_hazards.md R305). -/
def State.ended (s : State) : Bool := s.todo.isEmpty && !s.busy

/-- The observation at the end of a run: the value of every register of 10_state.md R20, and the answers the host received
(70_reset_and_hazards.md R305). -/
def State.observation (s : State) : List Word × List Response := (RegName.all.map s.regValue, s.responses)

/-- Would a write of this register now race the command in flight? Software must avoid such writes
(70_reset_and_hazards.md R298). -/
def State.writeRaces (r : RegName) (s : State) : Bool :=
  match s.inflight with
  | none => false
  | some f => decide (r ∈ hazardWrites f.op)

/-- exec carries out the command of OPCODE `op` and ARG `arg` in `s`, on the operands `snap`: it is in flight with that
snapshot, or nothing is in flight and the operands are the registers as they stand (log 3). -/
def Carried (op arg : Byte) (snap : Snap) (s : State) : Prop :=
  (s.inflight = none ∧ snap = s.snapshot) ∨
    ∃ f, s.inflight = some f ∧ f.op = op ∧ f.arg = arg ∧ f.snap = snap

/-- No register the command in flight writes has been raced by a host write (70_reset_and_hazards.md R298). -/
def Unraced (s : State) : Prop := ∀ f, s.inflight = some f → f.raced = []

/-- What no command writes is the same: IRQ_EN, DIN, TBL_INDEX and the host's side of the port. -/
structure SameHost (s t : State) : Prop where
  irqEn : t.irqEn = s.irqEn
  din : t.din = s.din
  tblIndex : t.tblIndex = s.tblIndex
  todo : t.todo = s.todo
  responses : t.responses = s.responses
  hostFailed : t.hostFailed = s.hostFailed

/-- The staging spec is the same. -/
structure SameStaging (s t : State) : Prop where
  staging : t.staging = s.staging

/-- The active spec and the table are the same. -/
structure SameActive (s t : State) : Prop where
  act : t.act = s.act
  table : t.table = s.table

/-- REG and COUNT are the same. -/
structure SameEngine (s t : State) : Prop where
  reg : t.reg = s.reg
  count : t.count = s.count

/-- The combine operands are the same. -/
structure SameOperands (s t : State) : Prop where
  cmbA : t.cmbA = s.cmbA
  cmbB : t.cmbB = s.cmbB
  cmbLen : t.cmbLen = s.cmbLen
  tagA : t.tagA = s.tagA
  tagB : t.tagB = s.tagB

/-- CMB_RESULT is the same. -/
structure SameResult (s t : State) : Prop where
  cmbResult : t.cmbResult = s.cmbResult

/-- An error already recorded is kept (60_exceptions.md R255). -/
structure KeepsError (s t : State) : Prop where
  err : s.status.err = true → t.status.err = true
  errCode : s.status.err = true → t.status.errCode = s.status.errCode
  errOp : s.status.err = true → t.status.errOp = s.status.errOp

end Sys2Proof.Machine
end

