-- ==== Sys2Proof/Certificates/Slice0/Obligations.lean ====
section
/-! DEFINITION. The statements about CRCE for the provers, each with the rule of spec/ it formalises. -/

open Sys2Proof Sys2Proof.Machine

/-- The encoding examples of 30_encoding.md R115 and one word of every other opcode, written out from R104 and R108. -/
def Obligations.SampleWordsDecode : Prop :=
  decodeCmd 0x0000000000000803#64 = .ok (.update 8#8) ∧
  decodeCmd 0x0000000000000103#64 = .ok (.update 1#8) ∧
  decodeCmd 0x0000000000000108#64 = .ok (.loadPreset 1#8) ∧
  decodeCmd 0x0000000000000903#64 = .badArg 0x03#8 ∧
  decodeCmd 0x0000000000010001#64 = .illegalCmd 0x01#8 ∧
  decodeCmd 0x0000000000000109#64 = .illegalCmd 0x09#8 ∧
  decodeBus 0x3058#16 0#64 = .ok (.rd 0x058#12) ∧
  (∀ v, decodeBus 0xB018#16 v = .ok (.wr 0x018#12 v)) ∧
  decodeCmd 0x0#64 = .ok .nop ∧ decodeCmd 0x1#64 = .ok .config ∧ decodeCmd 0x2#64 = .ok .reset ∧
  decodeCmd 0x4#64 = .ok .captureA ∧ decodeCmd 0x5#64 = .ok .captureB ∧ decodeCmd 0x6#64 = .ok .combine ∧
  decodeCmd 0x7#64 = .ok .selftest ∧ decodeCmd 0x9#64 = .ok .clear

/-- Decoding the encoding of a well-formed instruction gives it back, whatever its operands (30_encoding.md R101, R104,
R108, R111). -/
def Obligations.DecodeOfEncode : Prop := ∀ i : Instr, WellFormed i → decode (encode i) = .ok i

/-- Each word has one meaning (30_encoding.md R110): what a word decodes to is well formed and encodes to that word. The
data beside the descriptor of a read has no meaning. -/
def Obligations.EncodeOfDecode : Prop :=
  (∀ v i, decodeCmd v = .ok i → WellFormed i ∧ encode i = .command v) ∧
  (∀ d x i, decodeBus d x = .ok i →
    WellFormed i ∧ encode i = .bus d (if descWrite d then x else 0#64))

/-- The decode function over all 2^64 words (30_encoding.md R111), said of the word as a number. -/
def Obligations.CommandWordDecodes : Prop :=
  ∀ v : Word,
    let op := v.toNat % 256
    let arg := v.toNat / 256 % 256
    decodeCmd v =
      if 65536 ≤ v.toNat then .illegalCmd (BitVec.ofNat 8 op)
      else if 0x0A ≤ op then .illegalCmd (BitVec.ofNat 8 op)
      else if op ≠ 3 ∧ op ≠ 8 ∧ arg ≠ 0 then .illegalCmd (BitVec.ofNat 8 op)
      else if op = 3 ∧ 8 < arg then .badArg (BitVec.ofNat 8 op)
      else if op = 8 ∧ 1 < arg then .badArg (BitVec.ofNat 8 op)
      else .ok (commandOf (BitVec.ofNat 8 op) (BitVec.ofNat 8 arg))

/-- The descriptors of a legal RD and of a legal WR, by match and mask, and every other one illegal (30_encoding.md R102,
20_memory.md R72). -/
def Obligations.BusDescriptorDecodes : Prop :=
  ∀ (d : BitVec 16) (x : Word),
    decodeBus d x =
      if d &&& 0xF007#16 = 0x3000#16 then .ok (.rd (d.setWidth 12))
      else if d &&& 0xF007#16 = 0xB000#16 then .ok (.wr (d.setWidth 12) x)
      else .illegalAccess

/-- A due completion is performed before the request of its cycle, and it is the exec of the command that OP and ARG
decode to (60_exceptions.md R263, 70_reset_and_hazards.md R299); a cycle with `rst_n` low resets the machine whatever is
due. That a completion is a step of its own, before the host statement of its cycle, is the model's reading (log 2). -/
def Obligations.CompletionComesFirst : Prop :=
  (∀ (s : State) (f : InFlight) (i : Instr),
    s.inflight = some f → f.remaining ≤ 1 → f.command = some i →
    (∀ req rest, s.todo ≠ .rstLow req :: rest) → step s = exec i s) ∧
  (∀ (s : State) req rest, s.todo = .rstLow req :: rest → step s = .next (resetCycle req rest s))

/-- A bus request whose descriptor decodes to an access is that access, in a cycle that costs the command in flight one of
its remaining cycles (30_encoding.md R102, 70_reset_and_hazards.md R299). That a host statement takes one cycle is the
model's reading (log 2). -/
def Obligations.RequestRunsTheAccess : Prop :=
  ∀ (s : State) (d : BitVec 16) (x : Word) (rest : List HostStmt) (i : Instr),
    s.due = none → s.todo = .request d x :: rest → decodeBus d x = .ok i →
    step s = exec i (s.tick.setTodo rest)

/-- An illegal access gets SLVERR with RDATA = 0 and has no effect on any register, command or flag (20_memory.md R73);
the cycle it takes counts for the command in flight (70_reset_and_hazards.md R299, log 2). The second clause says the same
of exec on a term with a misaligned offset, which no word decodes to: the model's own choice (log 13). -/
def Obligations.IllegalAccessHasNoEffect : Prop :=
  (∀ (s : State) (d : BitVec 16) (x : Word) (rest : List HostStmt),
    s.due = none → s.todo = .request d x :: rest → d &&& 0x7007#16 ≠ 0x3000#16 →
    step s = .next { s.tick with todo := rest, responses := .slverr 0#64 :: s.responses } ∧
    s.tick.statusWord = s.statusWord) ∧
  (∀ (s : State) (addr : BitVec 12) (x : Word), addr.toNat % 8 ≠ 0 →
    exec (.rd addr) s = .next { s with responses := .slverr 0#64 :: s.responses } ∧
    exec (.wr addr x) s = .next { s with responses := .slverr 0#64 :: s.responses })

/-- The clock: with nothing for the host to do, a command not yet due loses one of its remaining cycles, and an idle CRCE
changes no state (70_reset_and_hazards.md R299, 60_exceptions.md R275). That a host with no statement left idles while clk
goes on is the model's choice (log 1, log 2, log 11). -/
def Obligations.ClockCountsDown : Prop :=
  (∀ (s : State) (f : InFlight) (n : Nat),
    s.todo = [] → s.inflight = some f → f.remaining = n + 2 →
    step s = .next { s with inflight := some { f with remaining := n + 1 } }) ∧
  (∀ s : State, s.todo = [] → s.inflight = none → step s = .next s)

/-- A command in flight completes after exactly its remaining cycles, whatever the host does in them short of a hardware
reset (70_reset_and_hazards.md R299, R304): after all but the last, the same command with the same snapshot has one cycle
left, REG, COUNT, ACT, TABLE, CMB_RESULT, READY and DONE have not changed, and the step is the exec of the command. Under
a host with nothing to do no other field has changed at all. That a cycle is a step with at most one host statement, and
that a host with no statement left idles while clk goes on, is the model's reading (log 2, log 11). -/
def Obligations.CommandCompletesInTime : Prop :=
  (∀ (s : State) (f : InFlight) (i : Instr) (n : Nat),
    s.inflight = some f → f.remaining = n + 1 → f.command = some i → (∀ req, .rstLow req ∉ s.todo) →
    ∃ u g, core.run n s = .next u ∧ u.inflight = some g ∧ g = { f with remaining := 1, raced := g.raced } ∧
      step u = exec i u ∧ SameEngine s u ∧ SameActive s u ∧ SameResult s u ∧
      u.status.ready = s.status.ready ∧ u.status.done = s.status.done) ∧
  (∀ (s : State) (f : InFlight) (i : Instr) (n : Nat),
    s.todo = [] → s.inflight = some f → f.remaining = n + 1 → f.command = some i →
    ∃ u, core.run n s = .next u ∧ u = { s with inflight := some { f with remaining := 1 } } ∧ step u = exec i u)

/-- The state right after hardware reset: ID is the constant, every other register reads 0, INFLIGHT is none and irq is 0
(10_state.md R62). -/
def Obligations.ResetStateValues : Prop :=
  State.reset.regValue .id = 0x0000000743524345#64 ∧
  (∀ r, r ≠ .id → State.reset.regValue r = 0#64) ∧
  State.reset.inflight = none ∧ State.reset.irq = false ∧
  State.reset.act = { ctrl := Ctrl.zero, w := 0, poly := 0#64, init := 0#64, xorout := 0#64, check := 0#64 } ∧
  State.reset.reg = 0#64

/-- A cycle with `rst_n` low answers a state with every element at its value of 10_state.md R62, the command in flight
abandoned with no DONE, and TABLE unconstrained (70_reset_and_hazards.md R291). That the low lasts one cycle (log 10),
that the host keeps its remaining statements and its failure mark (log 1, log 12), and the form of the unspecified answer
to a request made in the cycle (70_reset_and_hazards.md R290, log 8) are the model's own. -/
def Obligations.HardwareResetRestores : Prop :=
  ∀ (s : State) req rest, s.todo = .rstLow req :: rest →
    ∃ t, step s = .next t ∧
      t = { State.reset with
        table := t.table, todo := rest, responses := t.responses, hostFailed := s.hostFailed, free := t.free } ∧
      (req = none → t.responses = s.responses) ∧
      (req ≠ none → ∃ e v, t.responses = .inReset e v :: s.responses)

/-- NOP completes and sets DONE, and does nothing else (41_engine.md R165). It holds of the command in flight and, by the
model's own convention (log 3), on an idle machine. -/
def Obligations.NopCompletes : Prop :=
  ∀ (s : State) (snap : Snap), Carried 0x00#8 0#8 snap s →
    exec .nop s = .next { s with
      status := { s.status with done := true }, inflight := none, free := s.free + 1 }

/-- CONFIG on a spec of a legal width whose self-test passes: ACT is the masked spec, every table entry is `tbl_entry`,
REG is ACT.INIT, COUNT is 0, READY is 1 (40_table_builder.md R133, R135, R136, R138, R140). It holds of the command in
flight and, by the model's own convention (log 3), on an idle machine. -/
def Obligations.ConfigBuildsAndInitialises : Prop :=
  ∀ (s : State) (snap : Snap) (w : Nat) (a : Act), Carried 0x01#8 0#8 snap s →
    w = 32 ∨ w = 64 → snap.spec.ctrl.width = BitVec.ofNat 8 w →
    a = { ctrl := snap.spec.ctrl, w := w,
          poly := snap.spec.poly &&& BitVec.ofNat 64 (2 ^ w - 1),
          init := snap.spec.init &&& BitVec.ofNat 64 (2 ^ w - 1),
          xorout := snap.spec.xorout &&& BitVec.ofNat 64 (2 ^ w - 1),
          check := snap.spec.check &&& BitVec.ofNat 64 (2 ^ w - 1) } →
    selftestDigest a (buildTable a) = a.check →
    ∃ t, exec .config s = .next t ∧ (∀ b, tableAt t.table b = tblEntry a b) ∧
      t = { s with
        act := a, table := t.table, reg := a.init, count := 0#64
        status := { s.status with ready := true, done := true }, inflight := none, free := s.free + 1 }

/-- CONFIG on an unsupported width raises CFG_WIDTH with ERR_OP = 0x01; afterwards READY, REG and COUNT are 0
(60_exceptions.md R252, 40_table_builder.md R141), ACT holds the unmasked staging values, and the table is not built
(40_table_builder.md R139). Of ACT.W nothing is said (93 U20). It holds of the command in flight and, by the model's own
convention (log 3), on an idle machine. -/
def Obligations.ConfigRefusesWidth : Prop :=
  ∀ (s : State) (snap : Snap), Carried 0x01#8 0#8 snap s →
    snap.spec.ctrl.width ≠ 32#8 → snap.spec.ctrl.width ≠ 64#8 →
    ∃ w, exec .config s = .next { s with
      act := { ctrl := snap.spec.ctrl, w := w, poly := snap.spec.poly, init := snap.spec.init,
               xorout := snap.spec.xorout, check := snap.spec.check }
      reg := 0#64, count := 0#64
      status := { Status.record .cfgWidth 0x01#8 s.status with ready := false, done := true }
      inflight := none, free := s.free + 1 }

/-- A self-test digest other than CHECK raises CFG_SELFTEST: of CONFIG with ERR_OP = 0x01, of SELFTEST with ERR_OP = 0x07;
afterwards READY = 0 (60_exceptions.md R253). CONFIG leaves ACT and TABLE as built and REG = COUNT = 0
(40_table_builder.md R135, R140), SELFTEST leaves them as they were (R144). It holds of the command in flight and, by the
model's own convention (log 3), on an idle machine. -/
def Obligations.SelftestMismatchIsAnError : Prop :=
  (∀ (s : State) (snap : Snap), Carried 0x01#8 0#8 snap s → widthLegal snap.spec.ctrl.width = true →
    selftestDigest (Act.latch snap.spec) (buildTable (Act.latch snap.spec)) ≠ (Act.latch snap.spec).check →
    exec .config s = .next { s with
      act := Act.latch snap.spec, table := buildTable (Act.latch snap.spec), reg := 0#64, count := 0#64
      status := { Status.record .cfgSelftest 0x01#8 s.status with ready := false, done := true }
      inflight := none, free := s.free + 1 }) ∧
  (∀ (s : State) (snap : Snap), Carried 0x07#8 0#8 snap s → s.status.ready = true →
    selftestDigest s.act s.table ≠ s.act.check →
    exec .selftest s = .next { s with
      status := { Status.record .cfgSelftest 0x07#8 s.status with ready := false, done := true }
      inflight := none, free := s.free + 1 })

/-- SELFTEST of an engine whose digest is ACT.CHECK completes and changes nothing but DONE (40_table_builder.md R144). It
holds of the command in flight and, by the model's own convention (log 3), on an idle machine. -/
def Obligations.SelftestCompletes : Prop :=
  ∀ (s : State) (snap : Snap), Carried 0x07#8 0#8 snap s → s.status.ready = true →
    fin s.act (checkString.foldl (stepByte s.act s.table) s.act.init) = s.act.check →
    exec .selftest s = .next { s with
      status := { s.status with done := true }, inflight := none, free := s.free + 1 }

/-- RESET restores REG to ACT.INIT and COUNT to 0 (41_engine.md R163). It holds of the command in flight and, by the
model's own convention (log 3), on an idle machine. -/
def Obligations.ResetCommandRestores : Prop :=
  ∀ (s : State) (snap : Snap), Carried 0x02#8 0#8 snap s → s.status.ready = true →
    exec .reset s = .next { s with
      reg := s.act.init, count := 0#64
      status := { s.status with done := true }, inflight := none, free := s.free + 1 }

/-- UPDATE n feeds bytes 0 to n-1 of the latched DIN to step_byte, byte 0 first, and adds n to COUNT modulo 2^64
(41_engine.md R161, 20_memory.md R75); n = 0 leaves both as they are. It holds of the command in flight and, by the
model's own convention (log 3), on an idle machine. -/
def Obligations.UpdateProcessesBytes : Prop :=
  ∀ (s : State) (snap : Snap) (n : Byte) (bytes : List Byte),
    Carried 0x03#8 n snap s → s.status.ready = true → n.toNat ≤ 8 →
    bytes.length = n.toNat → (∀ k, k < n.toNat → bytes[k]? = some ((snap.din >>> (8 * k)).setWidth 8)) →
    exec (.update n) s = .next { s with
      reg := bytes.foldl (stepByte s.act s.table) s.reg
      count := BitVec.ofNat 64 (s.count.toNat + n.toNat)
      status := { s.status with done := true }, inflight := none, free := s.free + 1 }

/-- CAPTURE_A copies the digest into CMB_A and the spec's tag into TAG_A; CAPTURE_B copies the digest into CMB_B, the tag
into TAG_B and COUNT into CMB_LEN; each where no host write races it (42_combiner.md R191, R193). It holds of the command
in flight and, by the model's own convention (log 3), on an idle machine. -/
def Obligations.CapturesCopyDigest : Prop :=
  (∀ (s : State) (snap : Snap), Carried 0x04#8 0#8 snap s → s.status.ready = true → Unraced s →
      exec .captureA s = .next { s with
        cmbA := (if s.act.ctrl.refout then rev s.act.w s.reg else s.reg) ^^^ s.act.xorout
        tagA := s.act.ctrl.specId
        status := { s.status with done := true }, inflight := none, free := s.free + 1 }) ∧
  (∀ (s : State) (snap : Snap), Carried 0x05#8 0#8 snap s → s.status.ready = true → Unraced s →
      exec .captureB s = .next { s with
        cmbB := (if s.act.ctrl.refout then rev s.act.w s.reg else s.reg) ^^^ s.act.xorout
        tagB := s.act.ctrl.specId
        cmbLen := s.count
        status := { s.status with done := true }, inflight := none, free := s.free + 1 })

/-- A host write that raced a completion has one of two outcomes: the register holds what the command writes, applied to
the host's value, or the host's value (70_reset_and_hazards.md R298). The affected pairs are those the rule lists, and
both results are admitted: of a raced register, the host's value stands where the free choice is true, and where it is
false the register holds what the command writes. Which of the two it is, is a free choice of the model, and the model
remembers the raced registers in the record in flight (log 6); the preset values are those of log 18. It holds of the
command in flight and, by the model's own convention (log 3), on an idle machine. -/
def Obligations.RacedWriteHasTwoOutcomes : Prop :=
  (∀ (s : State) (snap : Snap), Carried 0x04#8 0#8 snap s → s.status.ready = true →
    ∃ t, exec .captureA s = .next t ∧ t.tagB = s.tagB ∧
      (t.cmbA = fin s.act s.reg ∨ s.isRaced .cmbA = true ∧ t.cmbA = s.cmbA) ∧
      (t.tagA = s.act.ctrl.specId ∨ s.isRaced .cmbTag = true ∧ t.tagA = s.tagA) ∧
      (s.isRaced .cmbA = true → t.cmbA = if Config.writeAfter s.free 0x068#12 then s.cmbA else fin s.act s.reg) ∧
      (s.isRaced .cmbTag = true → t.tagA = if Config.writeAfter s.free 0x080#12 then s.tagA else s.act.ctrl.specId)) ∧
  (∀ (s : State) (snap : Snap), Carried 0x05#8 0#8 snap s → s.status.ready = true →
    ∃ t, exec .captureB s = .next t ∧ t.tagA = s.tagA ∧
      (t.cmbB = fin s.act s.reg ∨ s.isRaced .cmbB = true ∧ t.cmbB = s.cmbB) ∧
      (t.tagB = s.act.ctrl.specId ∨ s.isRaced .cmbTag = true ∧ t.tagB = s.tagB) ∧
      (t.cmbLen = s.count ∨ s.isRaced .cmbLen = true ∧ t.cmbLen = s.cmbLen) ∧
      (s.isRaced .cmbB = true → t.cmbB = if Config.writeAfter s.free 0x070#12 then s.cmbB else fin s.act s.reg) ∧
      (s.isRaced .cmbTag = true → t.tagB = if Config.writeAfter s.free 0x080#12 then s.tagB else s.act.ctrl.specId) ∧
      (s.isRaced .cmbLen = true → t.cmbLen = if Config.writeAfter s.free 0x078#12 then s.cmbLen else s.count)) ∧
  (∀ (s : State) (snap : Snap) (p : Byte), Carried 0x08#8 p snap s → p.toNat ≤ 1 →
    ∃ t, exec (.loadPreset p) s = .next t ∧
      (t.staging.ctrl = (presetSpec p).ctrl ∨ s.isRaced .cfg = true ∧ t.staging.ctrl = s.staging.ctrl) ∧
      (t.staging.poly = (presetSpec p).poly ∨ s.isRaced .poly = true ∧ t.staging.poly = s.staging.poly) ∧
      (t.staging.init = (presetSpec p).init ∨ s.isRaced .init = true ∧ t.staging.init = s.staging.init) ∧
      (t.staging.xorout = (presetSpec p).xorout ∨ s.isRaced .xorout = true ∧ t.staging.xorout = s.staging.xorout) ∧
      (t.staging.check = (presetSpec p).check ∨ s.isRaced .check = true ∧ t.staging.check = s.staging.check) ∧
      (s.isRaced .cfg = true →
        t.staging.ctrl = if Config.writeAfter s.free 0x020#12 then s.staging.ctrl else (presetSpec p).ctrl) ∧
      (s.isRaced .poly = true →
        t.staging.poly = if Config.writeAfter s.free 0x028#12 then s.staging.poly else (presetSpec p).poly) ∧
      (s.isRaced .init = true →
        t.staging.init = if Config.writeAfter s.free 0x030#12 then s.staging.init else (presetSpec p).init) ∧
      (s.isRaced .xorout = true →
        t.staging.xorout = if Config.writeAfter s.free 0x038#12 then s.staging.xorout else (presetSpec p).xorout) ∧
      (s.isRaced .check = true →
        t.staging.check = if Config.writeAfter s.free 0x040#12 then s.staging.check else (presetSpec p).check)) ∧
  (∀ (s : State) (f : InFlight) (r : RegName) (v : Word), s.inflight = some f → r ≠ .cmd →
    ((s.writeReg r v).isRaced r = true ↔ s.isRaced r = true ∨
      f.op = 0x04#8 ∧ r ∈ [.cmbA, .cmbTag] ∨
      f.op = 0x05#8 ∧ r ∈ [.cmbB, .cmbTag, .cmbLen] ∨
      f.op = 0x08#8 ∧ r ∈ [.cfg, .poly, .init, .xorout, .check]) ∧
    (∀ q, q ≠ r → (s.writeReg r v).isRaced q = s.isRaced q))

/-- COMBINE with both tags equal to ACT.SPEC_ID and a length above 0: the finalised checksum of the concatenation, on the
operands latched at issue and masked to W bits (42_combiner.md R195, R196). It holds of the command in flight and, by the
model's own convention (log 3), on an idle machine. -/
def Obligations.CombineComputes : Prop :=
  ∀ (s : State) (snap : Snap), Carried 0x06#8 0#8 snap s → s.status.ready = true →
    snap.tagA = s.act.ctrl.specId → snap.tagB = s.act.ctrl.specId → snap.cmbLen ≠ 0#64 →
    exec .combine s = .next { s with
      cmbResult := fin s.act
        (zeroBytes s.act s.table snap.cmbLen (unfin s.act (snap.cmbA &&& mask s.act.w) ^^^ s.act.init)
          ^^^ unfin s.act (snap.cmbB &&& mask s.act.w))
      status := { s.status with done := true }, inflight := none, free := s.free + 1 }

/-- COMBINE with CMB_LEN = 0 returns CMB_A masked to W bits, whatever CMB_B holds; where CMB_B is the digest of the empty
sequence the general formula gives the same (42_combiner.md R197). It holds of the command in flight and, by the model's
own convention (log 3), on an idle machine. -/
def Obligations.CombineZeroLength : Prop :=
  (∀ (s : State) (snap : Snap), Carried 0x06#8 0#8 snap s → s.status.ready = true →
    snap.tagA = s.act.ctrl.specId → snap.tagB = s.act.ctrl.specId → snap.cmbLen = 0#64 →
    exec .combine s = .next { s with
      cmbResult := snap.cmbA &&& mask s.act.w
      status := { s.status with done := true }, inflight := none, free := s.free + 1 }) ∧
  (∀ (a : Act) (x : Word), ActLegal a → Fits a.w x →
    fin a ((unfin a x ^^^ a.init) ^^^ unfin a (fin a a.init)) = x)

/-- COMBINE with a tag that differs from ACT.SPEC_ID raises MISMATCHED_SPEC with ERR_OP = 0x06, whatever the length, and
leaves CMB_RESULT unchanged (60_exceptions.md R254). It holds of the command in flight and, by the model's own convention
(log 3), on an idle machine. -/
def Obligations.MismatchedTagsAreRefused : Prop :=
  ∀ (s : State) (snap : Snap), Carried 0x06#8 0#8 snap s → s.status.ready = true →
    snap.tagA ≠ s.act.ctrl.specId ∨ snap.tagB ≠ s.act.ctrl.specId →
    exec .combine s = .next { s with
      status := { Status.record .mismatchedSpec 0x06#8 s.status with done := true }
      inflight := none, free := s.free + 1 }

/-- LOAD_PRESET p writes preset p into the staging registers, where no host write races it, and nothing else
(40_table_builder.md R131, R143). The constants of the presets beyond the CRC-32 polynomial and check value are general
knowledge by the spec's own mark (log 18; 93 G1, G2). It holds of the command in flight and, by the model's own convention
(log 3), on an idle machine. -/
def Obligations.LoadPresetWritesStaging : Prop :=
  (∀ (s : State) (snap : Snap), Carried 0x08#8 0#8 snap s → Unraced s →
    ∃ t, exec (.loadPreset 0#8) s = .next t ∧
      t.regValue .cfg = 0x0000000000010120#64 ∧ t.regValue .poly = 0x00000000EDB88320#64 ∧
      t.regValue .init = 0x00000000FFFFFFFF#64 ∧ t.regValue .xorout = 0x00000000FFFFFFFF#64 ∧
      t.regValue .check = 0x00000000CBF43926#64 ∧
      t = { s with
        staging := t.staging
        status := { s.status with done := true }, inflight := none, free := s.free + 1 }) ∧
  (∀ (s : State) (snap : Snap), Carried 0x08#8 1#8 snap s → Unraced s →
    ∃ t, exec (.loadPreset 1#8) s = .next t ∧
      t.regValue .cfg = 0x0000000000020140#64 ∧ t.regValue .poly = 0x9A6C9329AC4BC9B5#64 ∧
      t.regValue .init = 0xFFFFFFFFFFFFFFFF#64 ∧ t.regValue .xorout = 0xFFFFFFFFFFFFFFFF#64 ∧
      t.regValue .check = 0xAE8B14860A799888#64 ∧
      t = { s with
        staging := t.staging
        status := { s.status with done := true }, inflight := none, free := s.free + 1 })

/-- The READY gate: with READY = 0 each of the six engine commands raises NOT_READY with its own opcode and changes
nothing but STATUS (60_exceptions.md R256, 40_table_builder.md R142). It holds of the command in flight and, by the
model's own convention (log 3), on an idle machine. -/
def Obligations.NotReadyIsRaised : Prop :=
  ∀ (s : State) (snap : Snap) (op arg : Byte) (i : Instr), Carried op arg snap s → s.status.ready = false →
    (op, arg, i) ∈ [(0x02#8, 0#8, Instr.reset), (0x03#8, arg, Instr.update arg), (0x04#8, 0#8, Instr.captureA),
      (0x05#8, 0#8, Instr.captureB), (0x06#8, 0#8, Instr.combine), (0x07#8, 0#8, Instr.selftest)] →
    (op = 0x03#8 → arg.toNat ≤ 8) →
    exec i s = .next { s with
      status := { Status.record .notReady op s.status with done := true }
      inflight := none, free := s.free + 1 }

/-- CLEAR clears DONE, ERR, ERRCODE and ERR_OP at the CMD write, sets no BUSY and no DONE, and drops the interrupt; while
BUSY = 1 it is refused and nothing is cleared (43_host_access.md R222, 60_exceptions.md R266). exec of CLEAR on a busy
machine is the refusal of its word (log 14). -/
def Obligations.ClearReturnsFromError : Prop :=
  (∀ s : State, s.busy = false →
    ∃ t, exec .clear s = .next t ∧ t.irq = false ∧
      t = { s with status := { ready := s.status.ready, done := false, err := false, errCode := .none, errOp := 0#8 } }) ∧
  (∀ s : State, s.busy = true →
    exec .clear s = .next { s with status := Status.record .busyViolation 0x09#8 s.status })

/-- Recording keeps the first error since the last CLEAR (60_exceptions.md R255), and never touches READY or DONE. -/
def Obligations.FirstErrorIsKept : Prop :=
  ∀ (st : Status) (e : ErrCode) (op : Byte),
    (Status.record e op st).err = true ∧ (Status.record e op st).ready = st.ready ∧
    (Status.record e op st).done = st.done ∧
    (st.err = false → (Status.record e op st).errCode = e ∧ (Status.record e op st).errOp = op) ∧
    (st.err = true → (Status.record e op st).errCode = st.errCode ∧ (Status.record e op st).errOp = st.errOp)

/-- The layout of STATUS (10_state.md R25, R26): BUSY reads 1 exactly while INFLIGHT is not none, IRQ reads `(DONE AND
DONE_IE) OR (ERR AND ERR_IE)` at every moment (10_state.md R30, 60_exceptions.md R267), the reserved fields read 0, and
ERRCODE is the code of the error by the table of 60_exceptions.md R251, never above 7. -/
def Obligations.StatusLayout : Prop :=
  ∀ s : State,
    (s.statusWord.getLsbD 0 = true ↔ s.inflight ≠ none) ∧
    s.statusWord.getLsbD 1 = s.status.ready ∧ s.statusWord.getLsbD 2 = s.status.done ∧
    s.statusWord.getLsbD 3 = s.status.err ∧
    (s.statusWord.getLsbD 4 = true ↔
      (s.status.done = true ∧ s.irqEn.doneIe = true) ∨ (s.status.err = true ∧ s.irqEn.errIe = true)) ∧
    s.irq = s.statusWord.getLsbD 4 ∧ s.statusWord.extractLsb' 5 3 = 0#3 ∧
    s.statusWord.extractLsb' 8 4 = s.status.errCode.bits ∧ s.statusWord.extractLsb' 12 4 = 0#4 ∧
    s.statusWord.extractLsb' 16 8 = s.status.errOp ∧ s.statusWord.extractLsb' 24 40 = 0#40 ∧
    ErrCode.none.bits = 0#4 ∧ ErrCode.cfgWidth.bits = 1#4 ∧ ErrCode.cfgSelftest.bits = 2#4 ∧
    ErrCode.mismatchedSpec.bits = 3#4 ∧ ErrCode.notReady.bits = 4#4 ∧ ErrCode.badArg.bits = 5#4 ∧
    ErrCode.illegalCmd.bits = 6#4 ∧ ErrCode.busyViolation.bits = 7#4 ∧ s.status.errCode.bits.toNat ≤ 7

/-- RD at the offset the map of 10_state.md R20 gives a register answers OKAY with its value and changes nothing else,
where no command in flight makes it unspecified; a reserved offset reads 0 (43_host_access.md R220, 10_state.md R60). The
values are the state's: ID the constant at all times (R21), IRQ_EN, CFG, CMB_TAG, TBL_INDEX and ACT_CFG their fields in
their layouts (R24, R34, R46, R54, R49), STATUS the word StatusLayout lays out (R25), DIGEST and TBL_DATA their values, 0
while READY = 0 (R41, R55), and every other register but CMD, which CmdReadsZero speaks of, the element of its name (R35
to R40, R42 to R45, R47, R50 to R53). -/
def Obligations.ReadReturnsRegister : Prop :=
  let map : List (RegName × BitVec 12) :=
      [(RegName.id, 0x000#12), (.irqEn, 0x008#12), (.status, 0x010#12), (.cmd, 0x018#12), (.cfg, 0x020#12),
       (.poly, 0x028#12), (.init, 0x030#12), (.xorout, 0x038#12), (.check, 0x040#12), (.din, 0x048#12),
       (.raw, 0x050#12), (.digest, 0x058#12), (.count, 0x060#12), (.cmbA, 0x068#12), (.cmbB, 0x070#12),
       (.cmbLen, 0x078#12), (.cmbTag, 0x080#12), (.cmbResult, 0x088#12), (.tblIndex, 0x090#12), (.tblData, 0x098#12),
       (.actCfg, 0x0A0#12), (.actPoly, 0x0A8#12), (.actInit, 0x0B0#12), (.actXorout, 0x0B8#12), (.actCheck, 0x0C0#12)]
  (∀ r, (r, r.offset) ∈ map) ∧
  (∀ (s : State) (r : RegName) (addr : BitVec 12), (r, addr) ∈ map → s.readUnspecified r = false →
    exec (.rd addr) s = .next { s with responses := .read (s.regValue r) :: s.responses }) ∧
  (∀ (s : State) (addr : BitVec 12), addr.toNat % 8 = 0 → 0x0C8 ≤ addr.toNat →
    exec (.rd addr) s = .next { s with responses := .read 0#64 :: s.responses }) ∧
  (∀ s : State, s.regValue .raw = s.reg ∧ s.regValue .count = s.count ∧
    (s.status.ready = true →
      s.regValue .digest = (if s.act.ctrl.refout then rev s.act.w s.reg else s.reg) ^^^ s.act.xorout ∧
      s.regValue .tblData = tableAt s.table s.tblIndex) ∧
    (s.status.ready = false → s.regValue .digest = 0#64 ∧ s.regValue .tblData = 0#64) ∧
    s.regValue .id = 0x0000000743524345#64 ∧ s.regValue .status = s.statusWord ∧
    (s.regValue .irqEn).getLsbD 0 = s.irqEn.doneIe ∧ (s.regValue .irqEn).getLsbD 1 = s.irqEn.errIe ∧
    (s.regValue .irqEn).extractLsb' 2 62 = 0#62 ∧
    (s.regValue .cfg).extractLsb' 0 8 = s.staging.ctrl.width ∧ (s.regValue .cfg).getLsbD 8 = s.staging.ctrl.refin ∧
    (s.regValue .cfg).getLsbD 9 = s.staging.ctrl.refout ∧ (s.regValue .cfg).extractLsb' 10 6 = 0#6 ∧
    (s.regValue .cfg).extractLsb' 16 8 = s.staging.ctrl.specId ∧ (s.regValue .cfg).extractLsb' 24 40 = 0#40 ∧
    s.regValue .poly = s.staging.poly ∧ s.regValue .init = s.staging.init ∧
    s.regValue .xorout = s.staging.xorout ∧ s.regValue .check = s.staging.check ∧ s.regValue .din = s.din ∧
    s.regValue .cmbA = s.cmbA ∧ s.regValue .cmbB = s.cmbB ∧ s.regValue .cmbLen = s.cmbLen ∧
    (s.regValue .cmbTag).extractLsb' 0 8 = s.tagA ∧ (s.regValue .cmbTag).extractLsb' 8 8 = s.tagB ∧
    (s.regValue .cmbTag).extractLsb' 16 48 = 0#48 ∧ s.regValue .cmbResult = s.cmbResult ∧
    (s.regValue .tblIndex).extractLsb' 0 8 = s.tblIndex ∧ (s.regValue .tblIndex).extractLsb' 8 56 = 0#56 ∧
    (s.regValue .actCfg).extractLsb' 0 8 = s.act.ctrl.width ∧ (s.regValue .actCfg).getLsbD 8 = s.act.ctrl.refin ∧
    (s.regValue .actCfg).getLsbD 9 = s.act.ctrl.refout ∧ (s.regValue .actCfg).extractLsb' 10 6 = 0#6 ∧
    (s.regValue .actCfg).extractLsb' 16 8 = s.act.ctrl.specId ∧ (s.regValue .actCfg).extractLsb' 24 40 = 0#40 ∧
    s.regValue .actPoly = s.act.poly ∧ s.regValue .actInit = s.act.init ∧
    s.regValue .actXorout = s.act.xorout ∧ s.regValue .actCheck = s.act.check)

/-- A legal read of CMD returns 0 and has no effect, at any time (43_host_access.md R225). -/
def Obligations.CmdReadsZero : Prop :=
  ∀ s : State, exec (.rd 0x018#12) s = .next { s with responses := .read 0#64 :: s.responses }

/-- The read hazard (70_reset_and_hazards.md R297): a read of a register the command in flight writes, or that is computed
from what it writes, answers OKAY with some value; STATUS, ID, IRQ_EN and CMD are always exact; and the registers are
exactly those the rule lists for each command, DIGEST and TBL_DATA during CONFIG among them (log 23). The value is a free
value of the model: nothing is said of it (log 5). -/
def Obligations.HazardReadAnswers : Prop :=
  (∀ (s : State) (r : RegName), s.readUnspecified r = true →
    ∃ v, exec (.rd r.offset) s = .next { s with responses := .read v :: s.responses, free := s.free + 1 }) ∧
  (∀ s : State, s.readUnspecified .status = false ∧ s.readUnspecified .id = false ∧
    s.readUnspecified .irqEn = false ∧ s.readUnspecified .cmd = false) ∧
  (∀ (s : State) (r : RegName), s.readUnspecified r = true ↔ ∃ f, s.inflight = some f ∧
    (f.op = 0x01#8 ∧ r ∈ [.raw, .digest, .count, .tblData, .actCfg, .actPoly, .actInit, .actXorout, .actCheck] ∨
      f.op = 0x02#8 ∧ r ∈ [.raw, .digest, .count] ∨
      f.op = 0x03#8 ∧ r ∈ [.raw, .digest, .count] ∨
      f.op = 0x04#8 ∧ r ∈ [.cmbA, .cmbTag] ∨
      f.op = 0x05#8 ∧ r ∈ [.cmbB, .cmbTag, .cmbLen] ∨
      f.op = 0x06#8 ∧ r ∈ [.cmbResult] ∨
      f.op = 0x08#8 ∧ r ∈ [.cfg, .poly, .init, .xorout, .check]))

/-- No read has a side effect (20_memory.md R79): whatever the offset, every element of CRCE is unchanged. -/
def Obligations.ReadsHaveNoEffect : Prop :=
  ∀ (s t : State) (addr : BitVec 12), exec (.rd addr) s = .next t →
    t = { s with responses := t.responses, free := t.free }

/-- WR at the offset of a register that stores writes: the register's held value is the value written under the register's
mask, and every other register keeps its value but for the views that follow it, STATUS (IRQ follows IRQ_EN) and TBL_DATA
(follows TBL_INDEX) (43_host_access.md R221, 10_state.md R20, R24, R34, R46, R54). While a command in flight writes the
register, a read of it is unspecified all the same (70_reset_and_hazards.md R297), and that it holds the host's value at
once is the model's reading (log 6). -/
def Obligations.StorageWriteReadsBack : Prop :=
  ∀ (s : State) (r : RegName) (addr : BitVec 12) (m v : Word),
    (r, addr, m) ∈ [(RegName.irqEn, 0x008#12, 0x3#64), (.cfg, 0x020#12, 0x0000000000FF03FF#64), (.poly, 0x028#12, BitVec.allOnes 64),
      (.init, 0x030#12, BitVec.allOnes 64), (.xorout, 0x038#12, BitVec.allOnes 64), (.check, 0x040#12, BitVec.allOnes 64),
      (.din, 0x048#12, BitVec.allOnes 64), (.cmbA, 0x068#12, BitVec.allOnes 64), (.cmbB, 0x070#12, BitVec.allOnes 64),
      (.cmbLen, 0x078#12, BitVec.allOnes 64), (.cmbTag, 0x080#12, 0xFFFF#64), (.tblIndex, 0x090#12, 0xFF#64)] →
    ∃ t, exec (.wr addr v) s = .next t ∧ t.regValue r = v &&& m ∧
      (∀ q, q ≠ r → q ≠ .status → q ≠ .tblData → t.regValue q = s.regValue q) ∧
      (r ≠ .tblIndex → t.regValue .tblData = s.regValue .tblData) ∧
      t.status = s.status ∧ t.busy = s.busy ∧ t.table = s.table ∧ t.act = s.act ∧
      t.todo = s.todo ∧ t.responses = .written :: s.responses ∧ t.hostFailed = s.hostFailed ∧ t.free = s.free

/-- A legal write to a read-only register or to a reserved offset is ignored: it returns OKAY, changes no state and
records no error (43_host_access.md R223). The offsets are those of 10_state.md R20. -/
def Obligations.ReadOnlyWriteIsIgnored : Prop :=
  (∀ (s : State) (r : RegName) (addr : BitVec 12) (v : Word),
    (r, addr) ∈ [(RegName.id, 0x000#12), (.status, 0x010#12), (.raw, 0x050#12), (.digest, 0x058#12),
      (.count, 0x060#12), (.cmbResult, 0x088#12), (.tblData, 0x098#12), (.actCfg, 0x0A0#12),
      (.actPoly, 0x0A8#12), (.actInit, 0x0B0#12), (.actXorout, 0x0B8#12), (.actCheck, 0x0C0#12)] →
    exec (.wr addr v) s = .next { s with responses := .written :: s.responses }) ∧
  (∀ (s : State) (addr : BitVec 12) (v : Word), addr.toNat % 8 = 0 → 0x0C8 ≤ addr.toNat →
    exec (.wr addr v) s = .next { s with responses := .written :: s.responses })

/-- The frame of WR: whatever the offset and the data, no write changes REG, COUNT, ACT, TABLE or CMB_RESULT, and none sets
READY (10_state.md R27, R48, R57; 20_memory.md R87); the host gets one answer. -/
def Obligations.WritesLeaveTheEngine : Prop :=
  ∀ (s t : State) (addr : BitVec 12) (v : Word), exec (.wr addr v) s = .next t →
    SameEngine s t ∧ SameActive s t ∧ SameResult s t ∧ t.todo = s.todo ∧ t.hostFailed = s.hostFailed ∧
    (t.status.ready = true → s.status.ready = true) ∧ (∃ a, t.responses = a :: s.responses)

/-- A CMD write while BUSY = 1 records BUSY_VIOLATION with the word's OPCODE field, whatever the word; DONE is not set and
the command in flight is not affected (60_exceptions.md R259). -/
def Obligations.BusyWriteIsRefused : Prop :=
  ∀ (s : State) (v : Word), s.busy = true →
    exec (.wr 0x018#12 v) s = .next { s with
      status := Status.record .busyViolation (v.setWidth 8) s.status
      responses := .written :: s.responses }

/-- An illegal word, one with RSVD != 0, a reserved OPCODE or an ARG that must be 0, records ILLEGAL_CMD with its OPCODE
field (60_exceptions.md R258); UPDATE with NBYTES > 8 and LOAD_PRESET with PRESET > 1 record BAD_ARG with ERR_OP 0x03 or 0x08
(R257). DONE is set and nothing issues. -/
def Obligations.RejectedWordIsRecorded : Prop :=
  (∀ (s : State) (v : Word), s.busy = false →
      65536 ≤ v.toNat ∨ 0x0A ≤ v.toNat % 256 ∨
        (v.toNat % 256 ≠ 3 ∧ v.toNat % 256 ≠ 8 ∧ v.toNat / 256 % 256 ≠ 0) →
      exec (.wr 0x018#12 v) s = .next { s with
        status := { Status.record .illegalCmd (v.setWidth 8) s.status with done := true }
        responses := .written :: s.responses }) ∧
  (∀ (s : State) (arg : Byte), s.busy = false →
      (8 < arg.toNat → exec (.wr 0x018#12 (commandWord 0x03#8 arg)) s = .next { s with
        status := { Status.record .badArg 0x03#8 s.status with done := true }
        responses := .written :: s.responses }) ∧
      (1 < arg.toNat → exec (.wr 0x018#12 (commandWord 0x08#8 arg)) s = .next { s with
        status := { Status.record .badArg 0x08#8 s.status with done := true }
        responses := .written :: s.responses }))

/-- A legal command word written to CMD while BUSY = 0: CLEAR clears the sticky flags at the write; any other command
issues, with at least one cycle to go and a snapshot of the operands as they stand (30_encoding.md R112), and CONFIG
clears READY at issue (43_host_access.md R224, 70_reset_and_hazards.md R299, 40_table_builder.md R135). The number of
cycles is a free value of the model (log 4). That the snapshot holds every operand register for every command (log 24),
and that no register is raced at issue (log 6), is the model's reading. -/
def Obligations.CommandWriteIssues : Prop :=
  ∀ (s : State) (v : Word) (i : Instr), s.busy = false → encode i = .command v → WellFormed i →
    (i = .clear → exec (.wr 0x018#12 v) s = .next { s with
      status := { s.status with done := false, err := false, errCode := .none, errOp := 0#8 }
      responses := .written :: s.responses }) ∧
    (i ≠ .clear → ∃ f, 1 ≤ f.remaining ∧ f.op = v.setWidth 8 ∧ f.arg = (v >>> 8).setWidth 8 ∧
      f.snap = { spec := s.staging, din := s.din, cmbA := s.cmbA, cmbB := s.cmbB, cmbLen := s.cmbLen,
                 tagA := s.tagA, tagB := s.tagB } ∧
      f.raced = [] ∧ f.command = some i ∧
      exec (.wr 0x018#12 v) s = .next { s with
        status := { s.status with ready := if i = .config then false else s.status.ready }
        inflight := some f, responses := .written :: s.responses, free := s.free + 1 })

/-- exec of a command that is not the one in flight, the model's own convention (log 3). On an idle machine it answers the
state that issuing the command and then carrying it out answers, but for the model's count of free values. With another
command in flight it records BUSY_VIOLATION, as 60_exceptions.md R259 does of the command's word. -/
def Obligations.ExecAwayFromCompletion : Prop :=
  (∀ (s : State) (v : Word) (i : Instr), s.busy = false → encode i = .command v → WellFormed i → i ≠ .clear →
      ∃ t u, exec i s = .next t ∧ exec i (s.issue (v.setWidth 8) ((v >>> 8).setWidth 8)) = .next u ∧
        u = { t with free := u.free }) ∧
  (∀ (s : State) (f : InFlight) (i : Instr) (op arg : Byte), s.inflight = some f → i.issues = true →
      encode i = .command (commandWord op arg) → (f.op ≠ op ∨ f.arg ≠ arg) →
      exec i s = .next { s with status := Status.record .busyViolation op s.status })

/-- The frame of UPDATE, RESET, NOP, SELFTEST and CLEAR, on every path (41_engine.md R161, R163, R165, 40_table_builder.md
R144, 43_host_access.md R222): of the registers UPDATE and RESET change only REG, COUNT and STATUS, and the other three
only STATUS. READY changes only in SELFTEST, and a recorded error is kept by all but CLEAR. Away from the completion of
the command in flight, what exec of a command does is the model's own convention (log 3). -/
def Obligations.EngineCommandFrame : Prop :=
  (∀ (s t : State) (n : Byte), exec (.update n) s = .next t ∨ exec .reset s = .next t →
    SameHost s t ∧ SameStaging s t ∧ SameActive s t ∧ SameOperands s t ∧ SameResult s t ∧
    KeepsError s t ∧ t.status.ready = s.status.ready) ∧
  (∀ s t : State, exec .nop s = .next t ∨ exec .selftest s = .next t ∨ exec .clear s = .next t →
    SameHost s t ∧ SameStaging s t ∧ SameActive s t ∧ SameEngine s t ∧ SameOperands s t ∧ SameResult s t) ∧
  (∀ s t : State, exec .nop s = .next t ∨ exec .clear s = .next t → t.status.ready = s.status.ready) ∧
  (∀ s t : State, exec .nop s = .next t ∨ exec .selftest s = .next t → KeepsError s t)

/-- The frame of the combiner's commands, on every path (42_combiner.md R191, R193, R196): a capture changes only its own
operand, tag and, of CAPTURE_B, CMB_LEN; COMBINE changes only CMB_RESULT; all three only DONE, BUSY and the error record
of STATUS. Away from the completion of the command in flight, what exec of a command does is the model's own convention
(log 3). -/
def Obligations.CombinerFrame : Prop :=
  (∀ s t : State, exec .captureA s = .next t ∨ exec .captureB s = .next t ∨ exec .combine s = .next t →
    SameHost s t ∧ SameStaging s t ∧ SameActive s t ∧ SameEngine s t ∧ KeepsError s t ∧
    t.status.ready = s.status.ready) ∧
  (∀ s t : State, exec .captureA s = .next t →
    SameResult s t ∧ t.cmbB = s.cmbB ∧ t.cmbLen = s.cmbLen ∧ t.tagB = s.tagB) ∧
  (∀ s t : State, exec .captureB s = .next t → SameResult s t ∧ t.cmbA = s.cmbA ∧ t.tagA = s.tagA) ∧
  (∀ s t : State, exec .combine s = .next t → SameOperands s t)

/-- The frame of CONFIG and LOAD_PRESET, on every path (40_table_builder.md R135, R143): neither touches the combine
registers, the host's registers or the staging registers the other writes. Away from the completion of the command in
flight, what exec of a command does is the model's own convention (log 3). -/
def Obligations.BuilderFrame : Prop :=
  (∀ s t : State, exec .config s = .next t →
    SameHost s t ∧ SameStaging s t ∧ SameOperands s t ∧ SameResult s t ∧ KeepsError s t) ∧
  (∀ (s t : State) (p : Byte), exec (.loadPreset p) s = .next t →
    SameHost s t ∧ SameActive s t ∧ SameEngine s t ∧ SameOperands s t ∧ SameResult s t ∧ KeepsError s t ∧
    t.status.ready = s.status.ready)

/-- Operands are latched at issue: a host write while CONFIG, UPDATE or COMBINE is in flight does not change what the
command computes (70_reset_and_hazards.md R299). -/
def Obligations.OperandsAreLatched : Prop :=
  ∀ (s t u : State) (f : InFlight) (i : Instr) (r : RegName) (v : Word),
    s.inflight = some f → f.command = some i → r ≠ .cmd →
    f.op = 0x01#8 ∨ f.op = 0x03#8 ∨ f.op = 0x06#8 →
    exec i s = .next t → exec i (s.writeReg r v) = .next u →
    SameEngine t u ∧ SameActive t u ∧ SameResult t u ∧ u.status = t.status ∧ u.inflight = t.inflight

/-- The invariant holds after reset (10_state.md R62, R63; 60_exceptions.md R255). -/
def Obligations.ResetMeetsInvariant : Prop := Inv State.reset

/-- Every step keeps the invariant: while READY = 1, ACT.W is 32 or 64, the table is the one ACT gives, the self-test
gives ACT.CHECK and REG is below 2^W; the error record is consistent; a command in flight is legal (10_state.md R63,
60_exceptions.md R255). That only registers the command writes are marked raced is the model's own part of the invariant
(log 6). -/
def Obligations.StepKeepsInvariant : Prop := ∀ s t : State, Inv s → step s = .next t → Inv t

/-- No run of a host can stop the machine: a state that meets the invariant steps to a next state (60_exceptions.md R250). -/
def Obligations.StepNeverStops : Prop := ∀ s : State, Inv s → ∃ t, step s = .next t

/-- Only these events write each piece of engine state (10_state.md R27, R42, R47, R48, R56, R57): a step that changes it
is a hardware reset or the completion of one of the commands named. READY is set only by the completion of a CONFIG. It is
cleared only by hardware reset, by the completion of a SELFTEST, or by the issue of a CONFIG, its word written to CMD on
an idle machine; this clause has as premise the part of the invariant that says that READY = 0 while a CONFIG is in
flight. -/
def Obligations.WritersOfEngineState : Prop :=
  ∀ s t : State, step s = .next t → (∀ req rest, s.todo ≠ .rstLow req :: rest) →
    let completes := fun (ops : List Byte) => ∃ f, s.due = some f ∧ f.op ∈ ops
    (t.reg ≠ s.reg ∨ t.count ≠ s.count → completes [0x01#8, 0x02#8, 0x03#8]) ∧
    (t.act ≠ s.act ∨ t.table ≠ s.table → completes [0x01#8]) ∧
    (t.cmbResult ≠ s.cmbResult → completes [0x06#8]) ∧
    (s.status.ready = false → t.status.ready = true → completes [0x01#8]) ∧
    ((∀ f, s.inflight = some f → f.op = 0x01#8 → s.status.ready = false) →
      s.status.ready = true → t.status.ready = false →
      completes [0x07#8] ∨
        s.due = none ∧ s.busy = false ∧ ∃ rest, s.todo = .request 0xB018#16 0x1#64 :: rest)

/-- DONE and ERR are sticky: a step clears either only by a hardware reset or by a CLEAR written to CMD; and a step that
completes a command sets DONE (10_state.md R28, R29). -/
def Obligations.StickyFlags : Prop :=
  ∀ s t : State, step s = .next t → (∀ req rest, s.todo ≠ .rstLow req :: rest) →
    (s.status.done = true ∧ t.status.done = false ∨ s.status.err = true ∧ t.status.err = false →
      s.due = none ∧ s.busy = false ∧ ∃ rest, s.todo = .request 0xB018#16 0x9#64 :: rest) ∧
    (s.due ≠ none → t.status.done = true ∧ t.inflight = none)

/-- `rev_W(v)[i] = v[W-1-i]` for i below W, and rev_W is its own inverse on W bits (00_scope.md R12). -/
def Obligations.RevReversesBits : Prop :=
  ∀ (w : Nat) (v : Word), 1 ≤ w → w ≤ 64 →
    (∀ i, i < w → (rev w v).getLsbD i = v.getLsbD (w - 1 - i)) ∧ Fits w (rev w v) ∧
    (Fits w v → rev w (rev w v) = v)

/-- `unfin` and `fin` are inverse on W-bit values (00_scope.md R18). -/
def Obligations.UnfinInvertsFin : Prop :=
  ∀ (a : Act) (r : Word), ActLegal a → Fits a.w r →
    unfin a (fin a r) = r ∧ fin a (unfin a r) = r ∧ Fits a.w (fin a r) ∧ Fits a.w (unfin a r)

/-- The table's properties (40_table_builder.md R134): entry 0 is 0, entries are linear over XOR, entry 0x80 (REFIN = 1) or
0x01 (REFIN = 0) is POLY, and every entry is below 2^W. -/
def Obligations.TableIsLinear : Prop :=
  ∀ (a : Act), ActLegal a →
    tblEntry a 0#8 = 0#64 ∧ (∀ b c, tblEntry a (b ^^^ c) = tblEntry a b ^^^ tblEntry a c) ∧
    (a.ctrl.refin = true → tblEntry a 0x80#8 = a.poly) ∧ (a.ctrl.refin = false → tblEntry a 0x01#8 = a.poly) ∧
    (∀ b, Fits a.w (tblEntry a b))

/-- The byte step by table lookup is the bit-serial division: 8 shifts of REG with the byte in the bits that leave first
(40_table_builder.md R133, 41_engine.md R160, 20_memory.md R76). -/
def Obligations.ByteStepIsBitSerial : Prop :=
  ∀ (a : Act) (r : Word) (b : Byte), ActLegal a → Fits a.w r →
    stepByte a (buildTable a) r b = (tblShift a)^[8] (r ^^^ tblStart a b)

/-- The affine law: `run(r, S) = zero_byte^n(r) XOR run(0, S)` (42_combiner.md R194). -/
def Obligations.AffineLaw : Prop :=
  ∀ (a : Act) (r : Word) (bytes : List Byte), ActLegal a → Fits a.w r →
    runBytes a (buildTable a) r bytes =
      (zeroByte a (buildTable a))^[bytes.length] r ^^^ runBytes a (buildTable a) 0#64 bytes

/-- Square and multiply gives n applications of zero_byte, for every 64-bit length (42_combiner.md R199). Square and
multiply is the model's choice of method (log 16), which the rule leaves free. -/
def Obligations.SquaringIsIteration : Prop :=
  ∀ (a : Act) (n v : Word), ActLegal a → Fits a.w v →
    zeroBytes a (buildTable a) n v = (zeroByte a (buildTable a))^[n.toNat] v

/-- Combine correctness: the combination of the digests of two byte sequences is the digest of their concatenation, for
every pair of sequences, the second shorter than 2^64 (42_combiner.md R198). -/
def Obligations.CombineIsConcatenation : Prop :=
  ∀ (a : Act) (s1 s2 : List Byte), ActLegal a → s2.length < 2 ^ 64 →
    let digest := fun bytes => fin a (runBytes a (buildTable a) a.init bytes)
    comb a (buildTable a) (digest s1) (digest s2) (BitVec.ofNat 64 s2.length) = digest (s1 ++ s2)

/-- Streaming and reset: two UPDATEs leave the REG of the bytes of both in order, and COUNT the sum modulo 2^64
(41_engine.md R162); after RESET, REG and COUNT are what a CONFIG that succeeded left, and RESET twice is RESET once
(R164). The commands are carried out on an idle machine (log 3). -/
def Obligations.StreamProperties : Prop :=
  (∀ (s t u : State) (m n : Byte) (din : Word), s.status.ready = true → s.inflight = none →
      m.toNat ≤ 8 → n.toNat ≤ 8 →
      exec (.update m) s = .next t → exec (.update n) { t with din := din } = .next u →
      u.reg = runBytes s.act s.table s.reg (dinBytes s.din m.toNat ++ dinBytes din n.toNat) ∧
      u.count = BitVec.ofNat 64 (s.count.toNat + m.toNat + n.toNat)) ∧
  (∀ (s t u : State), s.status.ready = true → s.inflight = none →
      exec .reset s = .next t → exec .reset t = .next u → u = { t with free := u.free } ∧
      t.reg = s.act.init ∧ t.count = 0#64)

/-- The self-test property: after a CONFIG that succeeds, feeding the check string leaves DIGEST equal to ACT.CHECK
(40_table_builder.md R145). The commands are carried out on an idle machine (log 3). -/
def Obligations.CheckStringGivesCheck : Prop :=
  ∀ s t u v : State, s.inflight = none → exec .config s = .next t → t.status.ready = true →
    exec (.update 8#8) { t with din := 0x3837363534333231#64 } = .next u →
    exec (.update 1#8) { u with din := 0x39#64 } = .next v →
    v.regValue .digest = v.act.check ∧ v.count = 9#64 ∧ v.act = t.act

/-- Two instances configured with equal staging values hold equal specs and tables and give equal REG and digests,
whatever else they hold (20_memory.md R89, 40_table_builder.md R136). It holds of the command in flight and, by the
model's own convention (log 3), on an idle machine. -/
def Obligations.EqualSpecsGiveEqualTables : Prop :=
  ∀ (s s' t t' : State) (snap snap' : Snap), Carried 0x01#8 0#8 snap s → Carried 0x01#8 0#8 snap' s' →
    snap.spec = snap'.spec → widthLegal snap.spec.ctrl.width = true →
    exec .config s = .next t → exec .config s' = .next t' →
    t.act = t'.act ∧ t.table = t'.table ∧ t.reg = t'.reg ∧ t.count = t'.count ∧
    t.status.ready = t'.status.ready ∧ t.regValue .digest = t'.regValue .digest

/-- The host's assembly (30_encoding.md R113, R114): ISSUE is the legal command word written to CMD, then WAIT, and the
assembler refuses any other argument; WAIT reads STATUS once a cycle, exactly, and is done when it reads BUSY = 0; every
other statement stands for its bus requests in order; EXPECT reads the register, and the host stops with failure if the
value is not the one given. That WAIT and EXPECT are statements of the host, one read a cycle, is the model's convention
(log 12). -/
def Obligations.HostStatementsRun : Prop :=
  (∀ (i : Instr) (v : Word), encode i = .command v → WellFormed i →
    assemble (.issue i) = some [.request 0xB018#16 v, .wait]) ∧
  (∀ (i : Instr) (v : Word), encode i = .command v → ¬ WellFormed i → assemble (.issue i) = none) ∧
  (∀ (s : State) (r : RegName) (val : Word) (rest : List HostStmt), s.due = none →
    s.todo = .expect r.offset val :: rest → s.tick.readUnspecified r = false →
    ∃ t, step s = .next t ∧ t.responses = .read (s.tick.regValue r) :: s.responses ∧
      (s.tick.regValue r = val → t.todo = rest ∧ t.hostFailed = s.hostFailed) ∧
      (s.tick.regValue r ≠ val → t.todo = [] ∧ t.hostFailed = true)) ∧
  (∀ (s : State) (rest : List HostStmt), s.due = none → s.todo = .wait :: rest →
      step s = .next { s.tick with
        todo := if s.busy then s.todo else rest
        responses := .read s.statusWord :: s.responses }) ∧
  (∀ (r : RegName) (x : Word),
    assemble (.rd r) = some [.request (0x3000#16 ||| r.offset.setWidth 16) 0#64] ∧
    assemble (.wr r x) = some [.request (0xB000#16 ||| r.offset.setWidth 16) x] ∧
    assemble (.cmdw x) = some [.request 0xB018#16 x] ∧ assemble (.expect r x) = some [.expect r.offset x]) ∧
  (∀ (i : Instr) (v : Word), encode i = .command v → WellFormed i → assemble (.cmd i) = some [.request 0xB018#16 v]) ∧
  (∀ (x : Word) (n p : Byte), n.toNat ≤ 8 → p.toNat ≤ 1 →
    assemble (.feed x n) = some [.request 0xB048#16 x, .request 0xB018#16 (commandWord 0x03#8 n), .wait] ∧
    assemble (.preset p) =
      some [.request 0xB018#16 (commandWord 0x08#8 p), .wait, .request 0xB018#16 0x1#64, .wait]) ∧
  (∀ (a b : Asm) (k : Nat) (l m : List HostStmt), assemble a = some l → assemble b = some m →
    assemble .skip = some [] ∧ assemble .wait = some [.wait] ∧ assemble (.seq a b) = some (l ++ m) ∧
    assemble (.loop 0 a) = some [] ∧ assemble (.loop (k + 1) a) = (assemble (.loop k a)).map (l ++ ·))
end

