-- ==== Sys2Proof/Laws/Crc.lean ====
section
/-! SUPPORT. Small facts about the arithmetic of CRCE: the mask, values below 2^W, the built table, runs of the byte step. -/

namespace Sys2Proof.Machine

/-- The mask of W bits, bit by bit (00_scope.md R11). -/
theorem getLsbD_mask {w : Nat} (hw : w ≤ 64) (i : Nat) : (mask w).getLsbD i = decide (i < w) := by
  simp only [mask, BitVec.getLsbD_ofNat, Nat.testBit_two_pow_sub_one]
  by_cases h : i < w
  · simp [h, show i < 64 by omega]
  · simp [h]

/-- `v < 2^W` says that every bit of v from W up is 0. -/
theorem fits_iff {w : Nat} (hw : w ≤ 64) (v : Word) : Fits w v ↔ ∀ i, w ≤ i → v.getLsbD i = false := by
  constructor
  · intro h i hi
    rw [← h]
    simp [getLsbD_mask hw, show ¬ i < w by omega]
  · intro h
    ext i hi
    have hb : v.getLsbD i = v[i] := BitVec.getLsbD_eq_getElem hi
    rw [← BitVec.getLsbD_eq_getElem hi, BitVec.getLsbD_and, getLsbD_mask hw, hb]
    by_cases hiw : i < w
    · simp [hiw]
    · simp [hiw, ← hb, h i (by omega)]

/-- A masked value is below 2^W (40_table_builder.md R135). -/
theorem fits_and_mask (w : Nat) (v : Word) : Fits w (v &&& mask w) := by
  unfold Fits
  rw [BitVec.and_assoc, BitVec.and_self]

theorem fits_zero (w : Nat) : Fits w 0#64 := by simp [Fits]

theorem fits_xor {w : Nat} {u v : Word} (hu : Fits w u) (hv : Fits w v) : Fits w (u ^^^ v) := by
  have distrib : (u ^^^ v) &&& mask w = (u &&& mask w) ^^^ (v &&& mask w) := by
    ext i hi
    simp [Bool.and_xor_distrib_right]
  rw [Fits, distrib, hu, hv]

/-- A built table holds the entry of each byte (40_table_builder.md R136). -/
@[simp] theorem tableAt_buildTable (a : Act) (b : Byte) : tableAt (buildTable a) b = tblEntry a b := by
  simp [tableAt, buildTable]

@[simp] theorem runBytes_nil (a : Act) (t : Vector Word 256) (r : Word) : runBytes a t r [] = r := rfl

/-- Bytes are taken in order (42_combiner.md R194). -/
theorem runBytes_append (a : Act) (t : Vector Word 256) (r : Word) (s1 s2 : List Byte) :
    runBytes a t r (s1 ++ s2) = runBytes a t (runBytes a t r s1) s2 := by
  simp [runBytes]

@[simp] theorem length_dinBytes (din : Word) (n : Nat) : (dinBytes din n).length = n := by simp [dinBytes]

/-- The physical address of an offset of the window (20_memory.md R70). -/
theorem windowOffset_base (base : Nat) (off : BitVec 12) : windowOffset base (base + off.toNat) = some off := by
  have := off.isLt
  simp [windowOffset, show off.toNat < 4096 by omega]

end Sys2Proof.Machine
end

