-- ==== Sys2Proof/Laws/Decode.lean ====
section
/-! SUPPORT. Facts about command words, descriptors and the register map, each said once. -/

namespace Sys2Proof

@[simp] theorem opcodeOf_commandWord (op arg : Byte) : opcodeOf (commandWord op arg) = op := by
  ext i hi
  simp [opcodeOf, commandWord, hi, show i < 64 by omega]

@[simp] theorem argOf_commandWord (op arg : Byte) : argOf (commandWord op arg) = arg := by
  ext i hi
  simp [argOf, commandWord, hi, show 8 + i < 64 by omega]

@[simp] theorem rsvdOf_commandWord (op arg : Byte) : rsvdOf (commandWord op arg) = 0#48 := by
  ext i hi
  simp [rsvdOf, commandWord, show ¬ 16 + i < 8 by omega, BitVec.getLsbD_of_ge arg (16 + i - 8) (by omega),
    BitVec.getLsbD_of_ge op (16 + i) (by omega)]

@[simp] theorem setWidth_commandWord (op arg : Byte) : (commandWord op arg).setWidth 8 = op := by
  ext i hi
  simp [commandWord]

@[simp] theorem shifted_commandWord (op arg : Byte) : (commandWord op arg >>> 8).setWidth 8 = arg := by
  ext i hi
  simp [commandWord, hi, show 8 + i < 64 by omega]

/-- A word with RSVD = 0 is the command word of its OPCODE and ARG. -/
theorem commandWord_of_rsvd_zero (v : Word) (h : rsvdOf v = 0#48) : commandWord (opcodeOf v) (argOf v) = v := by
  ext i hi
  have hz : 16 ≤ i → v[i] = false := by
    intro h16
    have hz : (rsvdOf v).getLsbD (i - 16) = false := by rw [h]; simp
    rw [rsvdOf, BitVec.getLsbD_extractLsb'] at hz
    simpa [show i - 16 < 48 by omega, show 16 + (i - 16) = i by omega, BitVec.getLsbD_eq_getElem hi] using hz
  by_cases h8 : i < 8
  · simp [commandWord, opcodeOf, argOf, h8, hi]
  · by_cases h16 : i < 16
    · simp [commandWord, opcodeOf, argOf, h8, hi, show i - 8 < 8 by omega, show 8 + (i - 8) = i by omega]
    · simp [commandWord, opcodeOf, argOf, h8, hi, show ¬ i - 8 < 8 by omega, hz (by omega)]

/-- What the word of an OPCODE and an ARG decodes to, RSVD being 0 (30_encoding.md R111). -/
theorem decodeCmd_commandWord (op arg : Byte) :
    decodeCmd (commandWord op arg) =
      if 0x0A ≤ op.toNat then .illegalCmd op
      else if op ≠ 0x03#8 ∧ op ≠ 0x08#8 ∧ arg ≠ 0#8 then .illegalCmd op
      else if op = 0x03#8 ∧ 8 < arg.toNat then .badArg op
      else if op = 0x08#8 ∧ 1 < arg.toNat then .badArg op
      else .ok (commandOf op arg) := by
  simp [decodeCmd]

/-- A word that decodes to a command is the command word of its OPCODE and ARG. -/
theorem commandWord_of_decodeCmd_ok {v : Word} {i : Instr} (h : decodeCmd v = .ok i) :
    commandWord (opcodeOf v) (argOf v) = v := by
  apply commandWord_of_rsvd_zero
  by_contra hr
  simp [decodeCmd, hr] at h

/-- The command word of an instruction, where it has one, and its OPCODE and ARG. -/
def opArg : Instr → Option (Byte × Byte)
  | .nop => some (0x00#8, 0#8)
  | .config => some (0x01#8, 0#8)
  | .reset => some (0x02#8, 0#8)
  | .update nbytes => some (0x03#8, nbytes)
  | .captureA => some (0x04#8, 0#8)
  | .captureB => some (0x05#8, 0#8)
  | .combine => some (0x06#8, 0#8)
  | .selftest => some (0x07#8, 0#8)
  | .loadPreset preset => some (0x08#8, preset)
  | .clear => some (0x09#8, 0#8)
  | .rd _ | .wr _ _ => none

/-- The instruction a word of an OPCODE and an ARG decodes to has that OPCODE and that ARG, and is a legal form. -/
theorem opArg_of_decodeCmd {op arg : Byte} {i : Instr} (h : decodeCmd (commandWord op arg) = .ok i) :
    opArg i = some (op, arg) ∧ WellFormed i := by
  rw [decodeCmd_commandWord] at h
  split at h; · cases h
  split at h; · cases h
  split at h; · cases h
  split at h; · cases h
  rename_i h10 hz h3 h8
  cases h
  have hop : op.toNat < 10 := by omega
  have hcases : op = 0x00#8 ∨ op = 0x01#8 ∨ op = 0x02#8 ∨ op = 0x03#8 ∨ op = 0x04#8 ∨ op = 0x05#8 ∨ op = 0x06#8 ∨
      op = 0x07#8 ∨ op = 0x08#8 ∨ op = 0x09#8 := by
    have : ∀ n, n = op.toNat → op = BitVec.ofNat 8 n := by rintro n rfl; simp
    have hn := this op.toNat rfl
    generalize op.toNat = n at *
    interval_cases n <;> simp_all
  rcases hcases with rfl | rfl | rfl | rfl | rfl | rfl | rfl | rfl | rfl | rfl <;>
    simp_all [commandOf, opArg, WellFormed, Instr.wellFormed]

namespace Machine

/-- The register at a register's offset is that register (10_state.md R20). -/
@[simp] theorem regAt_offset (r : RegName) : regAt r.offset = some r := by cases r <;> decide

/-- A register's offset is a multiple of 8 (10_state.md R20). -/
@[simp] theorem offset_aligned (r : RegName) : r.offset.toNat % 8 = 0 := by cases r <;> decide

/-- What `regAt` answers is the register at that offset. -/
theorem offset_of_regAt {addr : BitVec 12} {r : RegName} (h : regAt addr = some r) : r.offset = addr := by
  simpa using List.find?_some h

/-- No register at the reserved offsets (10_state.md R60). -/
theorem regAt_reserved {addr : BitVec 12} (h : 0x0C8 ≤ addr.toNat) : regAt addr = none := by
  rw [regAt, List.find?_eq_none]
  intro r _
  simp only [beq_iff_eq]
  rintro rfl
  cases r <;> revert h <;> decide

/-- The command of a record in flight: OP and ARG are its own, it is a legal form, and it issues. -/
theorem opArg_of_command {f : InFlight} {i : Instr} (h : f.command = some i) :
    opArg i = some (f.op, f.arg) ∧ WellFormed i ∧ i.issues = true := by
  unfold InFlight.command at h
  split at h
  · split at h
    · rename_i hd hi
      cases h
      exact ⟨(opArg_of_decodeCmd hd).1, (opArg_of_decodeCmd hd).2, hi⟩
    · cases h
  all_goals cases h

end Machine

end Sys2Proof
end

