-- ==== Sys2Proof/Laws/State.lean ====
section
/-! SUPPORT. What each update of the state does to each field: one lemma per field and update. -/

namespace Sys2Proof.Machine

section record

@[simp] theorem State.record_irqEn (e : ErrCode) (op : Byte) (s : State) : (s.record e op).irqEn = s.irqEn := rfl
@[simp] theorem State.record_status (e : ErrCode) (op : Byte) (s : State) : (s.record e op).status = s.status.record e op := rfl
@[simp] theorem State.record_staging (e : ErrCode) (op : Byte) (s : State) : (s.record e op).staging = s.staging := rfl
@[simp] theorem State.record_din (e : ErrCode) (op : Byte) (s : State) : (s.record e op).din = s.din := rfl
@[simp] theorem State.record_reg (e : ErrCode) (op : Byte) (s : State) : (s.record e op).reg = s.reg := rfl
@[simp] theorem State.record_count (e : ErrCode) (op : Byte) (s : State) : (s.record e op).count = s.count := rfl
@[simp] theorem State.record_cmbA (e : ErrCode) (op : Byte) (s : State) : (s.record e op).cmbA = s.cmbA := rfl
@[simp] theorem State.record_cmbB (e : ErrCode) (op : Byte) (s : State) : (s.record e op).cmbB = s.cmbB := rfl
@[simp] theorem State.record_cmbLen (e : ErrCode) (op : Byte) (s : State) : (s.record e op).cmbLen = s.cmbLen := rfl
@[simp] theorem State.record_tagA (e : ErrCode) (op : Byte) (s : State) : (s.record e op).tagA = s.tagA := rfl
@[simp] theorem State.record_tagB (e : ErrCode) (op : Byte) (s : State) : (s.record e op).tagB = s.tagB := rfl
@[simp] theorem State.record_cmbResult (e : ErrCode) (op : Byte) (s : State) : (s.record e op).cmbResult = s.cmbResult := rfl
@[simp] theorem State.record_tblIndex (e : ErrCode) (op : Byte) (s : State) : (s.record e op).tblIndex = s.tblIndex := rfl
@[simp] theorem State.record_act (e : ErrCode) (op : Byte) (s : State) : (s.record e op).act = s.act := rfl
@[simp] theorem State.record_table (e : ErrCode) (op : Byte) (s : State) : (s.record e op).table = s.table := rfl
@[simp] theorem State.record_inflight (e : ErrCode) (op : Byte) (s : State) : (s.record e op).inflight = s.inflight := rfl
@[simp] theorem State.record_todo (e : ErrCode) (op : Byte) (s : State) : (s.record e op).todo = s.todo := rfl
@[simp] theorem State.record_responses (e : ErrCode) (op : Byte) (s : State) : (s.record e op).responses = s.responses := rfl
@[simp] theorem State.record_hostFailed (e : ErrCode) (op : Byte) (s : State) : (s.record e op).hostFailed = s.hostFailed := rfl
@[simp] theorem State.record_free (e : ErrCode) (op : Byte) (s : State) : (s.record e op).free = s.free := rfl

end record

section finish

@[simp] theorem State.finish_irqEn (s : State) : (s.finish).irqEn = s.irqEn := rfl
@[simp] theorem State.finish_status (s : State) : (s.finish).status = { s.status with done := true } := rfl
@[simp] theorem State.finish_staging (s : State) : (s.finish).staging = s.staging := rfl
@[simp] theorem State.finish_din (s : State) : (s.finish).din = s.din := rfl
@[simp] theorem State.finish_reg (s : State) : (s.finish).reg = s.reg := rfl
@[simp] theorem State.finish_count (s : State) : (s.finish).count = s.count := rfl
@[simp] theorem State.finish_cmbA (s : State) : (s.finish).cmbA = s.cmbA := rfl
@[simp] theorem State.finish_cmbB (s : State) : (s.finish).cmbB = s.cmbB := rfl
@[simp] theorem State.finish_cmbLen (s : State) : (s.finish).cmbLen = s.cmbLen := rfl
@[simp] theorem State.finish_tagA (s : State) : (s.finish).tagA = s.tagA := rfl
@[simp] theorem State.finish_tagB (s : State) : (s.finish).tagB = s.tagB := rfl
@[simp] theorem State.finish_cmbResult (s : State) : (s.finish).cmbResult = s.cmbResult := rfl
@[simp] theorem State.finish_tblIndex (s : State) : (s.finish).tblIndex = s.tblIndex := rfl
@[simp] theorem State.finish_act (s : State) : (s.finish).act = s.act := rfl
@[simp] theorem State.finish_table (s : State) : (s.finish).table = s.table := rfl
@[simp] theorem State.finish_inflight (s : State) : (s.finish).inflight = none := rfl
@[simp] theorem State.finish_todo (s : State) : (s.finish).todo = s.todo := rfl
@[simp] theorem State.finish_responses (s : State) : (s.finish).responses = s.responses := rfl
@[simp] theorem State.finish_hostFailed (s : State) : (s.finish).hostFailed = s.hostFailed := rfl
@[simp] theorem State.finish_free (s : State) : (s.finish).free = s.free + 1 := rfl

end finish

section raise

@[simp] theorem State.raise_irqEn (e : ErrCode) (op : Byte) (s : State) : (s.raise e op).irqEn = s.irqEn := rfl
@[simp] theorem State.raise_status (e : ErrCode) (op : Byte) (s : State) : (s.raise e op).status = { s.status.record e op with done := true } := rfl
@[simp] theorem State.raise_staging (e : ErrCode) (op : Byte) (s : State) : (s.raise e op).staging = s.staging := rfl
@[simp] theorem State.raise_din (e : ErrCode) (op : Byte) (s : State) : (s.raise e op).din = s.din := rfl
@[simp] theorem State.raise_reg (e : ErrCode) (op : Byte) (s : State) : (s.raise e op).reg = s.reg := rfl
@[simp] theorem State.raise_count (e : ErrCode) (op : Byte) (s : State) : (s.raise e op).count = s.count := rfl
@[simp] theorem State.raise_cmbA (e : ErrCode) (op : Byte) (s : State) : (s.raise e op).cmbA = s.cmbA := rfl
@[simp] theorem State.raise_cmbB (e : ErrCode) (op : Byte) (s : State) : (s.raise e op).cmbB = s.cmbB := rfl
@[simp] theorem State.raise_cmbLen (e : ErrCode) (op : Byte) (s : State) : (s.raise e op).cmbLen = s.cmbLen := rfl
@[simp] theorem State.raise_tagA (e : ErrCode) (op : Byte) (s : State) : (s.raise e op).tagA = s.tagA := rfl
@[simp] theorem State.raise_tagB (e : ErrCode) (op : Byte) (s : State) : (s.raise e op).tagB = s.tagB := rfl
@[simp] theorem State.raise_cmbResult (e : ErrCode) (op : Byte) (s : State) : (s.raise e op).cmbResult = s.cmbResult := rfl
@[simp] theorem State.raise_tblIndex (e : ErrCode) (op : Byte) (s : State) : (s.raise e op).tblIndex = s.tblIndex := rfl
@[simp] theorem State.raise_act (e : ErrCode) (op : Byte) (s : State) : (s.raise e op).act = s.act := rfl
@[simp] theorem State.raise_table (e : ErrCode) (op : Byte) (s : State) : (s.raise e op).table = s.table := rfl
@[simp] theorem State.raise_inflight (e : ErrCode) (op : Byte) (s : State) : (s.raise e op).inflight = none := rfl
@[simp] theorem State.raise_todo (e : ErrCode) (op : Byte) (s : State) : (s.raise e op).todo = s.todo := rfl
@[simp] theorem State.raise_responses (e : ErrCode) (op : Byte) (s : State) : (s.raise e op).responses = s.responses := rfl
@[simp] theorem State.raise_hostFailed (e : ErrCode) (op : Byte) (s : State) : (s.raise e op).hostFailed = s.hostFailed := rfl
@[simp] theorem State.raise_free (e : ErrCode) (op : Byte) (s : State) : (s.raise e op).free = s.free + 1 := rfl

end raise

section rejectWord

@[simp] theorem State.rejectWord_irqEn (e : ErrCode) (op : Byte) (s : State) : (s.rejectWord e op).irqEn = s.irqEn := rfl
@[simp] theorem State.rejectWord_status (e : ErrCode) (op : Byte) (s : State) : (s.rejectWord e op).status = { s.status.record e op with done := true } := rfl
@[simp] theorem State.rejectWord_staging (e : ErrCode) (op : Byte) (s : State) : (s.rejectWord e op).staging = s.staging := rfl
@[simp] theorem State.rejectWord_din (e : ErrCode) (op : Byte) (s : State) : (s.rejectWord e op).din = s.din := rfl
@[simp] theorem State.rejectWord_reg (e : ErrCode) (op : Byte) (s : State) : (s.rejectWord e op).reg = s.reg := rfl
@[simp] theorem State.rejectWord_count (e : ErrCode) (op : Byte) (s : State) : (s.rejectWord e op).count = s.count := rfl
@[simp] theorem State.rejectWord_cmbA (e : ErrCode) (op : Byte) (s : State) : (s.rejectWord e op).cmbA = s.cmbA := rfl
@[simp] theorem State.rejectWord_cmbB (e : ErrCode) (op : Byte) (s : State) : (s.rejectWord e op).cmbB = s.cmbB := rfl
@[simp] theorem State.rejectWord_cmbLen (e : ErrCode) (op : Byte) (s : State) : (s.rejectWord e op).cmbLen = s.cmbLen := rfl
@[simp] theorem State.rejectWord_tagA (e : ErrCode) (op : Byte) (s : State) : (s.rejectWord e op).tagA = s.tagA := rfl
@[simp] theorem State.rejectWord_tagB (e : ErrCode) (op : Byte) (s : State) : (s.rejectWord e op).tagB = s.tagB := rfl
@[simp] theorem State.rejectWord_cmbResult (e : ErrCode) (op : Byte) (s : State) : (s.rejectWord e op).cmbResult = s.cmbResult := rfl
@[simp] theorem State.rejectWord_tblIndex (e : ErrCode) (op : Byte) (s : State) : (s.rejectWord e op).tblIndex = s.tblIndex := rfl
@[simp] theorem State.rejectWord_act (e : ErrCode) (op : Byte) (s : State) : (s.rejectWord e op).act = s.act := rfl
@[simp] theorem State.rejectWord_table (e : ErrCode) (op : Byte) (s : State) : (s.rejectWord e op).table = s.table := rfl
@[simp] theorem State.rejectWord_inflight (e : ErrCode) (op : Byte) (s : State) : (s.rejectWord e op).inflight = s.inflight := rfl
@[simp] theorem State.rejectWord_todo (e : ErrCode) (op : Byte) (s : State) : (s.rejectWord e op).todo = s.todo := rfl
@[simp] theorem State.rejectWord_responses (e : ErrCode) (op : Byte) (s : State) : (s.rejectWord e op).responses = s.responses := rfl
@[simp] theorem State.rejectWord_hostFailed (e : ErrCode) (op : Byte) (s : State) : (s.rejectWord e op).hostFailed = s.hostFailed := rfl
@[simp] theorem State.rejectWord_free (e : ErrCode) (op : Byte) (s : State) : (s.rejectWord e op).free = s.free := rfl

end rejectWord

section clearSticky

@[simp] theorem State.clearSticky_irqEn (s : State) : (s.clearSticky).irqEn = s.irqEn := rfl
@[simp] theorem State.clearSticky_status (s : State) : (s.clearSticky).status = s.status.cleared := rfl
@[simp] theorem State.clearSticky_staging (s : State) : (s.clearSticky).staging = s.staging := rfl
@[simp] theorem State.clearSticky_din (s : State) : (s.clearSticky).din = s.din := rfl
@[simp] theorem State.clearSticky_reg (s : State) : (s.clearSticky).reg = s.reg := rfl
@[simp] theorem State.clearSticky_count (s : State) : (s.clearSticky).count = s.count := rfl
@[simp] theorem State.clearSticky_cmbA (s : State) : (s.clearSticky).cmbA = s.cmbA := rfl
@[simp] theorem State.clearSticky_cmbB (s : State) : (s.clearSticky).cmbB = s.cmbB := rfl
@[simp] theorem State.clearSticky_cmbLen (s : State) : (s.clearSticky).cmbLen = s.cmbLen := rfl
@[simp] theorem State.clearSticky_tagA (s : State) : (s.clearSticky).tagA = s.tagA := rfl
@[simp] theorem State.clearSticky_tagB (s : State) : (s.clearSticky).tagB = s.tagB := rfl
@[simp] theorem State.clearSticky_cmbResult (s : State) : (s.clearSticky).cmbResult = s.cmbResult := rfl
@[simp] theorem State.clearSticky_tblIndex (s : State) : (s.clearSticky).tblIndex = s.tblIndex := rfl
@[simp] theorem State.clearSticky_act (s : State) : (s.clearSticky).act = s.act := rfl
@[simp] theorem State.clearSticky_table (s : State) : (s.clearSticky).table = s.table := rfl
@[simp] theorem State.clearSticky_inflight (s : State) : (s.clearSticky).inflight = s.inflight := rfl
@[simp] theorem State.clearSticky_todo (s : State) : (s.clearSticky).todo = s.todo := rfl
@[simp] theorem State.clearSticky_responses (s : State) : (s.clearSticky).responses = s.responses := rfl
@[simp] theorem State.clearSticky_hostFailed (s : State) : (s.clearSticky).hostFailed = s.hostFailed := rfl
@[simp] theorem State.clearSticky_free (s : State) : (s.clearSticky).free = s.free := rfl

end clearSticky

section issue

@[simp] theorem State.issue_irqEn (op arg : Byte) (s : State) : (s.issue op arg).irqEn = s.irqEn := rfl
@[simp] theorem State.issue_status (op arg : Byte) (s : State) : (s.issue op arg).status = { s.status with ready := s.status.ready && op != 0x01#8 } := rfl
@[simp] theorem State.issue_staging (op arg : Byte) (s : State) : (s.issue op arg).staging = s.staging := rfl
@[simp] theorem State.issue_din (op arg : Byte) (s : State) : (s.issue op arg).din = s.din := rfl
@[simp] theorem State.issue_reg (op arg : Byte) (s : State) : (s.issue op arg).reg = s.reg := rfl
@[simp] theorem State.issue_count (op arg : Byte) (s : State) : (s.issue op arg).count = s.count := rfl
@[simp] theorem State.issue_cmbA (op arg : Byte) (s : State) : (s.issue op arg).cmbA = s.cmbA := rfl
@[simp] theorem State.issue_cmbB (op arg : Byte) (s : State) : (s.issue op arg).cmbB = s.cmbB := rfl
@[simp] theorem State.issue_cmbLen (op arg : Byte) (s : State) : (s.issue op arg).cmbLen = s.cmbLen := rfl
@[simp] theorem State.issue_tagA (op arg : Byte) (s : State) : (s.issue op arg).tagA = s.tagA := rfl
@[simp] theorem State.issue_tagB (op arg : Byte) (s : State) : (s.issue op arg).tagB = s.tagB := rfl
@[simp] theorem State.issue_cmbResult (op arg : Byte) (s : State) : (s.issue op arg).cmbResult = s.cmbResult := rfl
@[simp] theorem State.issue_tblIndex (op arg : Byte) (s : State) : (s.issue op arg).tblIndex = s.tblIndex := rfl
@[simp] theorem State.issue_act (op arg : Byte) (s : State) : (s.issue op arg).act = s.act := rfl
@[simp] theorem State.issue_table (op arg : Byte) (s : State) : (s.issue op arg).table = s.table := rfl
@[simp] theorem State.issue_inflight (op arg : Byte) (s : State) : (s.issue op arg).inflight = some { op := op, arg := arg, snap := s.snapshot, remaining := Config.latency s.free op arg s.snapshot.operands, raced := [] } := rfl
@[simp] theorem State.issue_todo (op arg : Byte) (s : State) : (s.issue op arg).todo = s.todo := rfl
@[simp] theorem State.issue_responses (op arg : Byte) (s : State) : (s.issue op arg).responses = s.responses := rfl
@[simp] theorem State.issue_hostFailed (op arg : Byte) (s : State) : (s.issue op arg).hostFailed = s.hostFailed := rfl
@[simp] theorem State.issue_free (op arg : Byte) (s : State) : (s.issue op arg).free = s.free + 1 := rfl

end issue

section respond

@[simp] theorem State.respond_irqEn (r : Response) (s : State) : (s.respond r).irqEn = s.irqEn := rfl
@[simp] theorem State.respond_status (r : Response) (s : State) : (s.respond r).status = s.status := rfl
@[simp] theorem State.respond_staging (r : Response) (s : State) : (s.respond r).staging = s.staging := rfl
@[simp] theorem State.respond_din (r : Response) (s : State) : (s.respond r).din = s.din := rfl
@[simp] theorem State.respond_reg (r : Response) (s : State) : (s.respond r).reg = s.reg := rfl
@[simp] theorem State.respond_count (r : Response) (s : State) : (s.respond r).count = s.count := rfl
@[simp] theorem State.respond_cmbA (r : Response) (s : State) : (s.respond r).cmbA = s.cmbA := rfl
@[simp] theorem State.respond_cmbB (r : Response) (s : State) : (s.respond r).cmbB = s.cmbB := rfl
@[simp] theorem State.respond_cmbLen (r : Response) (s : State) : (s.respond r).cmbLen = s.cmbLen := rfl
@[simp] theorem State.respond_tagA (r : Response) (s : State) : (s.respond r).tagA = s.tagA := rfl
@[simp] theorem State.respond_tagB (r : Response) (s : State) : (s.respond r).tagB = s.tagB := rfl
@[simp] theorem State.respond_cmbResult (r : Response) (s : State) : (s.respond r).cmbResult = s.cmbResult := rfl
@[simp] theorem State.respond_tblIndex (r : Response) (s : State) : (s.respond r).tblIndex = s.tblIndex := rfl
@[simp] theorem State.respond_act (r : Response) (s : State) : (s.respond r).act = s.act := rfl
@[simp] theorem State.respond_table (r : Response) (s : State) : (s.respond r).table = s.table := rfl
@[simp] theorem State.respond_inflight (r : Response) (s : State) : (s.respond r).inflight = s.inflight := rfl
@[simp] theorem State.respond_todo (r : Response) (s : State) : (s.respond r).todo = s.todo := rfl
@[simp] theorem State.respond_responses (r : Response) (s : State) : (s.respond r).responses = r :: s.responses := rfl
@[simp] theorem State.respond_hostFailed (r : Response) (s : State) : (s.respond r).hostFailed = s.hostFailed := rfl
@[simp] theorem State.respond_free (r : Response) (s : State) : (s.respond r).free = s.free := rfl

end respond

section setTodo

@[simp] theorem State.setTodo_irqEn (l : List HostStmt) (s : State) : (s.setTodo l).irqEn = s.irqEn := rfl
@[simp] theorem State.setTodo_status (l : List HostStmt) (s : State) : (s.setTodo l).status = s.status := rfl
@[simp] theorem State.setTodo_staging (l : List HostStmt) (s : State) : (s.setTodo l).staging = s.staging := rfl
@[simp] theorem State.setTodo_din (l : List HostStmt) (s : State) : (s.setTodo l).din = s.din := rfl
@[simp] theorem State.setTodo_reg (l : List HostStmt) (s : State) : (s.setTodo l).reg = s.reg := rfl
@[simp] theorem State.setTodo_count (l : List HostStmt) (s : State) : (s.setTodo l).count = s.count := rfl
@[simp] theorem State.setTodo_cmbA (l : List HostStmt) (s : State) : (s.setTodo l).cmbA = s.cmbA := rfl
@[simp] theorem State.setTodo_cmbB (l : List HostStmt) (s : State) : (s.setTodo l).cmbB = s.cmbB := rfl
@[simp] theorem State.setTodo_cmbLen (l : List HostStmt) (s : State) : (s.setTodo l).cmbLen = s.cmbLen := rfl
@[simp] theorem State.setTodo_tagA (l : List HostStmt) (s : State) : (s.setTodo l).tagA = s.tagA := rfl
@[simp] theorem State.setTodo_tagB (l : List HostStmt) (s : State) : (s.setTodo l).tagB = s.tagB := rfl
@[simp] theorem State.setTodo_cmbResult (l : List HostStmt) (s : State) : (s.setTodo l).cmbResult = s.cmbResult := rfl
@[simp] theorem State.setTodo_tblIndex (l : List HostStmt) (s : State) : (s.setTodo l).tblIndex = s.tblIndex := rfl
@[simp] theorem State.setTodo_act (l : List HostStmt) (s : State) : (s.setTodo l).act = s.act := rfl
@[simp] theorem State.setTodo_table (l : List HostStmt) (s : State) : (s.setTodo l).table = s.table := rfl
@[simp] theorem State.setTodo_inflight (l : List HostStmt) (s : State) : (s.setTodo l).inflight = s.inflight := rfl
@[simp] theorem State.setTodo_todo (l : List HostStmt) (s : State) : (s.setTodo l).todo = l := rfl
@[simp] theorem State.setTodo_responses (l : List HostStmt) (s : State) : (s.setTodo l).responses = s.responses := rfl
@[simp] theorem State.setTodo_hostFailed (l : List HostStmt) (s : State) : (s.setTodo l).hostFailed = s.hostFailed := rfl
@[simp] theorem State.setTodo_free (l : List HostStmt) (s : State) : (s.setTodo l).free = s.free := rfl

end setTodo

section hostStop

@[simp] theorem State.hostStop_irqEn (s : State) : (s.hostStop).irqEn = s.irqEn := rfl
@[simp] theorem State.hostStop_status (s : State) : (s.hostStop).status = s.status := rfl
@[simp] theorem State.hostStop_staging (s : State) : (s.hostStop).staging = s.staging := rfl
@[simp] theorem State.hostStop_din (s : State) : (s.hostStop).din = s.din := rfl
@[simp] theorem State.hostStop_reg (s : State) : (s.hostStop).reg = s.reg := rfl
@[simp] theorem State.hostStop_count (s : State) : (s.hostStop).count = s.count := rfl
@[simp] theorem State.hostStop_cmbA (s : State) : (s.hostStop).cmbA = s.cmbA := rfl
@[simp] theorem State.hostStop_cmbB (s : State) : (s.hostStop).cmbB = s.cmbB := rfl
@[simp] theorem State.hostStop_cmbLen (s : State) : (s.hostStop).cmbLen = s.cmbLen := rfl
@[simp] theorem State.hostStop_tagA (s : State) : (s.hostStop).tagA = s.tagA := rfl
@[simp] theorem State.hostStop_tagB (s : State) : (s.hostStop).tagB = s.tagB := rfl
@[simp] theorem State.hostStop_cmbResult (s : State) : (s.hostStop).cmbResult = s.cmbResult := rfl
@[simp] theorem State.hostStop_tblIndex (s : State) : (s.hostStop).tblIndex = s.tblIndex := rfl
@[simp] theorem State.hostStop_act (s : State) : (s.hostStop).act = s.act := rfl
@[simp] theorem State.hostStop_table (s : State) : (s.hostStop).table = s.table := rfl
@[simp] theorem State.hostStop_inflight (s : State) : (s.hostStop).inflight = s.inflight := rfl
@[simp] theorem State.hostStop_todo (s : State) : (s.hostStop).todo = [] := rfl
@[simp] theorem State.hostStop_responses (s : State) : (s.hostStop).responses = s.responses := rfl
@[simp] theorem State.hostStop_hostFailed (s : State) : (s.hostStop).hostFailed = true := rfl
@[simp] theorem State.hostStop_free (s : State) : (s.hostStop).free = s.free := rfl

end hostStop

section configStart

@[simp] theorem State.configStart_irqEn (s : State) : (s.configStart).irqEn = s.irqEn := rfl
@[simp] theorem State.configStart_status (s : State) : (s.configStart).status = { s.status with ready := false } := rfl
@[simp] theorem State.configStart_staging (s : State) : (s.configStart).staging = s.staging := rfl
@[simp] theorem State.configStart_din (s : State) : (s.configStart).din = s.din := rfl
@[simp] theorem State.configStart_reg (s : State) : (s.configStart).reg = 0#64 := rfl
@[simp] theorem State.configStart_count (s : State) : (s.configStart).count = 0#64 := rfl
@[simp] theorem State.configStart_cmbA (s : State) : (s.configStart).cmbA = s.cmbA := rfl
@[simp] theorem State.configStart_cmbB (s : State) : (s.configStart).cmbB = s.cmbB := rfl
@[simp] theorem State.configStart_cmbLen (s : State) : (s.configStart).cmbLen = s.cmbLen := rfl
@[simp] theorem State.configStart_tagA (s : State) : (s.configStart).tagA = s.tagA := rfl
@[simp] theorem State.configStart_tagB (s : State) : (s.configStart).tagB = s.tagB := rfl
@[simp] theorem State.configStart_cmbResult (s : State) : (s.configStart).cmbResult = s.cmbResult := rfl
@[simp] theorem State.configStart_tblIndex (s : State) : (s.configStart).tblIndex = s.tblIndex := rfl
@[simp] theorem State.configStart_act (s : State) : (s.configStart).act = s.act := rfl
@[simp] theorem State.configStart_table (s : State) : (s.configStart).table = s.table := rfl
@[simp] theorem State.configStart_inflight (s : State) : (s.configStart).inflight = s.inflight := rfl
@[simp] theorem State.configStart_todo (s : State) : (s.configStart).todo = s.todo := rfl
@[simp] theorem State.configStart_responses (s : State) : (s.configStart).responses = s.responses := rfl
@[simp] theorem State.configStart_hostFailed (s : State) : (s.configStart).hostFailed = s.hostFailed := rfl
@[simp] theorem State.configStart_free (s : State) : (s.configStart).free = s.free := rfl

end configStart

section configBuilt

@[simp] theorem State.configBuilt_irqEn (sp : Spec) (s : State) : (s.configBuilt sp).irqEn = s.irqEn := rfl
@[simp] theorem State.configBuilt_status (sp : Spec) (s : State) : (s.configBuilt sp).status = { s.status with ready := false } := rfl
@[simp] theorem State.configBuilt_staging (sp : Spec) (s : State) : (s.configBuilt sp).staging = s.staging := rfl
@[simp] theorem State.configBuilt_din (sp : Spec) (s : State) : (s.configBuilt sp).din = s.din := rfl
@[simp] theorem State.configBuilt_reg (sp : Spec) (s : State) : (s.configBuilt sp).reg = 0#64 := rfl
@[simp] theorem State.configBuilt_count (sp : Spec) (s : State) : (s.configBuilt sp).count = 0#64 := rfl
@[simp] theorem State.configBuilt_cmbA (sp : Spec) (s : State) : (s.configBuilt sp).cmbA = s.cmbA := rfl
@[simp] theorem State.configBuilt_cmbB (sp : Spec) (s : State) : (s.configBuilt sp).cmbB = s.cmbB := rfl
@[simp] theorem State.configBuilt_cmbLen (sp : Spec) (s : State) : (s.configBuilt sp).cmbLen = s.cmbLen := rfl
@[simp] theorem State.configBuilt_tagA (sp : Spec) (s : State) : (s.configBuilt sp).tagA = s.tagA := rfl
@[simp] theorem State.configBuilt_tagB (sp : Spec) (s : State) : (s.configBuilt sp).tagB = s.tagB := rfl
@[simp] theorem State.configBuilt_cmbResult (sp : Spec) (s : State) : (s.configBuilt sp).cmbResult = s.cmbResult := rfl
@[simp] theorem State.configBuilt_tblIndex (sp : Spec) (s : State) : (s.configBuilt sp).tblIndex = s.tblIndex := rfl
@[simp] theorem State.configBuilt_act (sp : Spec) (s : State) : (s.configBuilt sp).act = Act.latch sp := rfl
@[simp] theorem State.configBuilt_table (sp : Spec) (s : State) : (s.configBuilt sp).table = buildTable (Act.latch sp) := rfl
@[simp] theorem State.configBuilt_inflight (sp : Spec) (s : State) : (s.configBuilt sp).inflight = s.inflight := rfl
@[simp] theorem State.configBuilt_todo (sp : Spec) (s : State) : (s.configBuilt sp).todo = s.todo := rfl
@[simp] theorem State.configBuilt_responses (sp : Spec) (s : State) : (s.configBuilt sp).responses = s.responses := rfl
@[simp] theorem State.configBuilt_hostFailed (sp : Spec) (s : State) : (s.configBuilt sp).hostFailed = s.hostFailed := rfl
@[simp] theorem State.configBuilt_free (sp : Spec) (s : State) : (s.configBuilt sp).free = s.free := rfl

end configBuilt

section engineInit

@[simp] theorem State.engineInit_irqEn (s : State) : (s.engineInit).irqEn = s.irqEn := rfl
@[simp] theorem State.engineInit_status (s : State) : (s.engineInit).status = { s.status with ready := true } := rfl
@[simp] theorem State.engineInit_staging (s : State) : (s.engineInit).staging = s.staging := rfl
@[simp] theorem State.engineInit_din (s : State) : (s.engineInit).din = s.din := rfl
@[simp] theorem State.engineInit_reg (s : State) : (s.engineInit).reg = s.act.init := rfl
@[simp] theorem State.engineInit_count (s : State) : (s.engineInit).count = 0#64 := rfl
@[simp] theorem State.engineInit_cmbA (s : State) : (s.engineInit).cmbA = s.cmbA := rfl
@[simp] theorem State.engineInit_cmbB (s : State) : (s.engineInit).cmbB = s.cmbB := rfl
@[simp] theorem State.engineInit_cmbLen (s : State) : (s.engineInit).cmbLen = s.cmbLen := rfl
@[simp] theorem State.engineInit_tagA (s : State) : (s.engineInit).tagA = s.tagA := rfl
@[simp] theorem State.engineInit_tagB (s : State) : (s.engineInit).tagB = s.tagB := rfl
@[simp] theorem State.engineInit_cmbResult (s : State) : (s.engineInit).cmbResult = s.cmbResult := rfl
@[simp] theorem State.engineInit_tblIndex (s : State) : (s.engineInit).tblIndex = s.tblIndex := rfl
@[simp] theorem State.engineInit_act (s : State) : (s.engineInit).act = s.act := rfl
@[simp] theorem State.engineInit_table (s : State) : (s.engineInit).table = s.table := rfl
@[simp] theorem State.engineInit_inflight (s : State) : (s.engineInit).inflight = s.inflight := rfl
@[simp] theorem State.engineInit_todo (s : State) : (s.engineInit).todo = s.todo := rfl
@[simp] theorem State.engineInit_responses (s : State) : (s.engineInit).responses = s.responses := rfl
@[simp] theorem State.engineInit_hostFailed (s : State) : (s.engineInit).hostFailed = s.hostFailed := rfl
@[simp] theorem State.engineInit_free (s : State) : (s.engineInit).free = s.free := rfl

end engineInit

section hardReset

@[simp] theorem State.hardReset_irqEn (s : State) : (s.hardReset).irqEn = State.reset.irqEn := rfl
@[simp] theorem State.hardReset_status (s : State) : (s.hardReset).status = State.reset.status := rfl
@[simp] theorem State.hardReset_staging (s : State) : (s.hardReset).staging = State.reset.staging := rfl
@[simp] theorem State.hardReset_din (s : State) : (s.hardReset).din = State.reset.din := rfl
@[simp] theorem State.hardReset_reg (s : State) : (s.hardReset).reg = State.reset.reg := rfl
@[simp] theorem State.hardReset_count (s : State) : (s.hardReset).count = State.reset.count := rfl
@[simp] theorem State.hardReset_cmbA (s : State) : (s.hardReset).cmbA = State.reset.cmbA := rfl
@[simp] theorem State.hardReset_cmbB (s : State) : (s.hardReset).cmbB = State.reset.cmbB := rfl
@[simp] theorem State.hardReset_cmbLen (s : State) : (s.hardReset).cmbLen = State.reset.cmbLen := rfl
@[simp] theorem State.hardReset_tagA (s : State) : (s.hardReset).tagA = State.reset.tagA := rfl
@[simp] theorem State.hardReset_tagB (s : State) : (s.hardReset).tagB = State.reset.tagB := rfl
@[simp] theorem State.hardReset_cmbResult (s : State) : (s.hardReset).cmbResult = State.reset.cmbResult := rfl
@[simp] theorem State.hardReset_tblIndex (s : State) : (s.hardReset).tblIndex = State.reset.tblIndex := rfl
@[simp] theorem State.hardReset_act (s : State) : (s.hardReset).act = State.reset.act := rfl
@[simp] theorem State.hardReset_table (s : State) : (s.hardReset).table = tableAfterReset s.free := rfl
@[simp] theorem State.hardReset_inflight (s : State) : (s.hardReset).inflight = State.reset.inflight := rfl
@[simp] theorem State.hardReset_todo (s : State) : (s.hardReset).todo = s.todo := rfl
@[simp] theorem State.hardReset_responses (s : State) : (s.hardReset).responses = s.responses := rfl
@[simp] theorem State.hardReset_hostFailed (s : State) : (s.hardReset).hostFailed = s.hostFailed := rfl
@[simp] theorem State.hardReset_free (s : State) : (s.hardReset).free = s.free + 1 := rfl

end hardReset

section tick

@[simp] theorem State.tick_irqEn (s : State) : (s.tick).irqEn = s.irqEn := by
  unfold State.tick; split <;> rfl
@[simp] theorem State.tick_status (s : State) : (s.tick).status = s.status := by
  unfold State.tick; split <;> rfl
@[simp] theorem State.tick_staging (s : State) : (s.tick).staging = s.staging := by
  unfold State.tick; split <;> rfl
@[simp] theorem State.tick_din (s : State) : (s.tick).din = s.din := by
  unfold State.tick; split <;> rfl
@[simp] theorem State.tick_reg (s : State) : (s.tick).reg = s.reg := by
  unfold State.tick; split <;> rfl
@[simp] theorem State.tick_count (s : State) : (s.tick).count = s.count := by
  unfold State.tick; split <;> rfl
@[simp] theorem State.tick_cmbA (s : State) : (s.tick).cmbA = s.cmbA := by
  unfold State.tick; split <;> rfl
@[simp] theorem State.tick_cmbB (s : State) : (s.tick).cmbB = s.cmbB := by
  unfold State.tick; split <;> rfl
@[simp] theorem State.tick_cmbLen (s : State) : (s.tick).cmbLen = s.cmbLen := by
  unfold State.tick; split <;> rfl
@[simp] theorem State.tick_tagA (s : State) : (s.tick).tagA = s.tagA := by
  unfold State.tick; split <;> rfl
@[simp] theorem State.tick_tagB (s : State) : (s.tick).tagB = s.tagB := by
  unfold State.tick; split <;> rfl
@[simp] theorem State.tick_cmbResult (s : State) : (s.tick).cmbResult = s.cmbResult := by
  unfold State.tick; split <;> rfl
@[simp] theorem State.tick_tblIndex (s : State) : (s.tick).tblIndex = s.tblIndex := by
  unfold State.tick; split <;> rfl
@[simp] theorem State.tick_act (s : State) : (s.tick).act = s.act := by
  unfold State.tick; split <;> rfl
@[simp] theorem State.tick_table (s : State) : (s.tick).table = s.table := by
  unfold State.tick; split <;> rfl
@[simp] theorem State.tick_todo (s : State) : (s.tick).todo = s.todo := by
  unfold State.tick; split <;> rfl
@[simp] theorem State.tick_responses (s : State) : (s.tick).responses = s.responses := by
  unfold State.tick; split <;> rfl
@[simp] theorem State.tick_hostFailed (s : State) : (s.tick).hostFailed = s.hostFailed := by
  unfold State.tick; split <;> rfl
@[simp] theorem State.tick_free (s : State) : (s.tick).free = s.free := by
  unfold State.tick; split <;> rfl

end tick

section noteRace

@[simp] theorem State.noteRace_irqEn (r : RegName) (s : State) : (s.noteRace r).irqEn = s.irqEn := by
  unfold State.noteRace; split; · rfl
  split <;> rfl
@[simp] theorem State.noteRace_status (r : RegName) (s : State) : (s.noteRace r).status = s.status := by
  unfold State.noteRace; split; · rfl
  split <;> rfl
@[simp] theorem State.noteRace_staging (r : RegName) (s : State) : (s.noteRace r).staging = s.staging := by
  unfold State.noteRace; split; · rfl
  split <;> rfl
@[simp] theorem State.noteRace_din (r : RegName) (s : State) : (s.noteRace r).din = s.din := by
  unfold State.noteRace; split; · rfl
  split <;> rfl
@[simp] theorem State.noteRace_reg (r : RegName) (s : State) : (s.noteRace r).reg = s.reg := by
  unfold State.noteRace; split; · rfl
  split <;> rfl
@[simp] theorem State.noteRace_count (r : RegName) (s : State) : (s.noteRace r).count = s.count := by
  unfold State.noteRace; split; · rfl
  split <;> rfl
@[simp] theorem State.noteRace_cmbA (r : RegName) (s : State) : (s.noteRace r).cmbA = s.cmbA := by
  unfold State.noteRace; split; · rfl
  split <;> rfl
@[simp] theorem State.noteRace_cmbB (r : RegName) (s : State) : (s.noteRace r).cmbB = s.cmbB := by
  unfold State.noteRace; split; · rfl
  split <;> rfl
@[simp] theorem State.noteRace_cmbLen (r : RegName) (s : State) : (s.noteRace r).cmbLen = s.cmbLen := by
  unfold State.noteRace; split; · rfl
  split <;> rfl
@[simp] theorem State.noteRace_tagA (r : RegName) (s : State) : (s.noteRace r).tagA = s.tagA := by
  unfold State.noteRace; split; · rfl
  split <;> rfl
@[simp] theorem State.noteRace_tagB (r : RegName) (s : State) : (s.noteRace r).tagB = s.tagB := by
  unfold State.noteRace; split; · rfl
  split <;> rfl
@[simp] theorem State.noteRace_cmbResult (r : RegName) (s : State) : (s.noteRace r).cmbResult = s.cmbResult := by
  unfold State.noteRace; split; · rfl
  split <;> rfl
@[simp] theorem State.noteRace_tblIndex (r : RegName) (s : State) : (s.noteRace r).tblIndex = s.tblIndex := by
  unfold State.noteRace; split; · rfl
  split <;> rfl
@[simp] theorem State.noteRace_act (r : RegName) (s : State) : (s.noteRace r).act = s.act := by
  unfold State.noteRace; split; · rfl
  split <;> rfl
@[simp] theorem State.noteRace_table (r : RegName) (s : State) : (s.noteRace r).table = s.table := by
  unfold State.noteRace; split; · rfl
  split <;> rfl
@[simp] theorem State.noteRace_todo (r : RegName) (s : State) : (s.noteRace r).todo = s.todo := by
  unfold State.noteRace; split; · rfl
  split <;> rfl
@[simp] theorem State.noteRace_responses (r : RegName) (s : State) : (s.noteRace r).responses = s.responses := by
  unfold State.noteRace; split; · rfl
  split <;> rfl
@[simp] theorem State.noteRace_hostFailed (r : RegName) (s : State) : (s.noteRace r).hostFailed = s.hostFailed := by
  unfold State.noteRace; split; · rfl
  split <;> rfl
@[simp] theorem State.noteRace_free (r : RegName) (s : State) : (s.noteRace r).free = s.free := by
  unfold State.noteRace; split; · rfl
  split <;> rfl

end noteRace

section hostNext

@[simp] theorem State.hostNext_irqEn (s : State) : (s.hostNext).irqEn = s.irqEn := by
  unfold State.hostNext; split <;> rfl
@[simp] theorem State.hostNext_status (s : State) : (s.hostNext).status = s.status := by
  unfold State.hostNext; split <;> rfl
@[simp] theorem State.hostNext_staging (s : State) : (s.hostNext).staging = s.staging := by
  unfold State.hostNext; split <;> rfl
@[simp] theorem State.hostNext_din (s : State) : (s.hostNext).din = s.din := by
  unfold State.hostNext; split <;> rfl
@[simp] theorem State.hostNext_reg (s : State) : (s.hostNext).reg = s.reg := by
  unfold State.hostNext; split <;> rfl
@[simp] theorem State.hostNext_count (s : State) : (s.hostNext).count = s.count := by
  unfold State.hostNext; split <;> rfl
@[simp] theorem State.hostNext_cmbA (s : State) : (s.hostNext).cmbA = s.cmbA := by
  unfold State.hostNext; split <;> rfl
@[simp] theorem State.hostNext_cmbB (s : State) : (s.hostNext).cmbB = s.cmbB := by
  unfold State.hostNext; split <;> rfl
@[simp] theorem State.hostNext_cmbLen (s : State) : (s.hostNext).cmbLen = s.cmbLen := by
  unfold State.hostNext; split <;> rfl
@[simp] theorem State.hostNext_tagA (s : State) : (s.hostNext).tagA = s.tagA := by
  unfold State.hostNext; split <;> rfl
@[simp] theorem State.hostNext_tagB (s : State) : (s.hostNext).tagB = s.tagB := by
  unfold State.hostNext; split <;> rfl
@[simp] theorem State.hostNext_cmbResult (s : State) : (s.hostNext).cmbResult = s.cmbResult := by
  unfold State.hostNext; split <;> rfl
@[simp] theorem State.hostNext_tblIndex (s : State) : (s.hostNext).tblIndex = s.tblIndex := by
  unfold State.hostNext; split <;> rfl
@[simp] theorem State.hostNext_act (s : State) : (s.hostNext).act = s.act := by
  unfold State.hostNext; split <;> rfl
@[simp] theorem State.hostNext_table (s : State) : (s.hostNext).table = s.table := by
  unfold State.hostNext; split <;> rfl
@[simp] theorem State.hostNext_todo (s : State) : (s.hostNext).todo = s.todo := by
  unfold State.hostNext; split <;> rfl
@[simp] theorem State.hostNext_responses (s : State) : (s.hostNext).responses = s.responses := by
  unfold State.hostNext; split <;> rfl
@[simp] theorem State.hostNext_hostFailed (s : State) : (s.hostNext).hostFailed = s.hostFailed := by
  unfold State.hostNext; split <;> rfl
@[simp] theorem State.hostNext_free (s : State) : (s.hostNext).free = s.free := by
  unfold State.hostNext; split <;> rfl

end hostNext

section storeReg

@[simp] theorem State.storeReg_status (r : RegName) (v : Word) (s : State) : (s.storeReg r v).status = s.status := by
  cases r <;> rfl
@[simp] theorem State.storeReg_reg (r : RegName) (v : Word) (s : State) : (s.storeReg r v).reg = s.reg := by
  cases r <;> rfl
@[simp] theorem State.storeReg_count (r : RegName) (v : Word) (s : State) : (s.storeReg r v).count = s.count := by
  cases r <;> rfl
@[simp] theorem State.storeReg_cmbResult (r : RegName) (v : Word) (s : State) : (s.storeReg r v).cmbResult = s.cmbResult := by
  cases r <;> rfl
@[simp] theorem State.storeReg_act (r : RegName) (v : Word) (s : State) : (s.storeReg r v).act = s.act := by
  cases r <;> rfl
@[simp] theorem State.storeReg_table (r : RegName) (v : Word) (s : State) : (s.storeReg r v).table = s.table := by
  cases r <;> rfl
@[simp] theorem State.storeReg_inflight (r : RegName) (v : Word) (s : State) : (s.storeReg r v).inflight = s.inflight := by
  cases r <;> rfl
@[simp] theorem State.storeReg_todo (r : RegName) (v : Word) (s : State) : (s.storeReg r v).todo = s.todo := by
  cases r <;> rfl
@[simp] theorem State.storeReg_responses (r : RegName) (v : Word) (s : State) : (s.storeReg r v).responses = s.responses := by
  cases r <;> rfl
@[simp] theorem State.storeReg_hostFailed (r : RegName) (v : Word) (s : State) : (s.storeReg r v).hostFailed = s.hostFailed := by
  cases r <;> rfl
@[simp] theorem State.storeReg_free (r : RegName) (v : Word) (s : State) : (s.storeReg r v).free = s.free := by
  cases r <;> rfl

end storeReg

section present

@[simp] theorem State.present_irqEn (v : Word) (s : State) : (s.present v).irqEn = s.irqEn := by
  unfold State.present; split; · rfl
  split <;> first | rfl | (split <;> rfl)
@[simp] theorem State.present_staging (v : Word) (s : State) : (s.present v).staging = s.staging := by
  unfold State.present; split; · rfl
  split <;> first | rfl | (split <;> rfl)
@[simp] theorem State.present_din (v : Word) (s : State) : (s.present v).din = s.din := by
  unfold State.present; split; · rfl
  split <;> first | rfl | (split <;> rfl)
@[simp] theorem State.present_reg (v : Word) (s : State) : (s.present v).reg = s.reg := by
  unfold State.present; split; · rfl
  split <;> first | rfl | (split <;> rfl)
@[simp] theorem State.present_count (v : Word) (s : State) : (s.present v).count = s.count := by
  unfold State.present; split; · rfl
  split <;> first | rfl | (split <;> rfl)
@[simp] theorem State.present_cmbA (v : Word) (s : State) : (s.present v).cmbA = s.cmbA := by
  unfold State.present; split; · rfl
  split <;> first | rfl | (split <;> rfl)
@[simp] theorem State.present_cmbB (v : Word) (s : State) : (s.present v).cmbB = s.cmbB := by
  unfold State.present; split; · rfl
  split <;> first | rfl | (split <;> rfl)
@[simp] theorem State.present_cmbLen (v : Word) (s : State) : (s.present v).cmbLen = s.cmbLen := by
  unfold State.present; split; · rfl
  split <;> first | rfl | (split <;> rfl)
@[simp] theorem State.present_tagA (v : Word) (s : State) : (s.present v).tagA = s.tagA := by
  unfold State.present; split; · rfl
  split <;> first | rfl | (split <;> rfl)
@[simp] theorem State.present_tagB (v : Word) (s : State) : (s.present v).tagB = s.tagB := by
  unfold State.present; split; · rfl
  split <;> first | rfl | (split <;> rfl)
@[simp] theorem State.present_cmbResult (v : Word) (s : State) : (s.present v).cmbResult = s.cmbResult := by
  unfold State.present; split; · rfl
  split <;> first | rfl | (split <;> rfl)
@[simp] theorem State.present_tblIndex (v : Word) (s : State) : (s.present v).tblIndex = s.tblIndex := by
  unfold State.present; split; · rfl
  split <;> first | rfl | (split <;> rfl)
@[simp] theorem State.present_act (v : Word) (s : State) : (s.present v).act = s.act := by
  unfold State.present; split; · rfl
  split <;> first | rfl | (split <;> rfl)
@[simp] theorem State.present_table (v : Word) (s : State) : (s.present v).table = s.table := by
  unfold State.present; split; · rfl
  split <;> first | rfl | (split <;> rfl)
@[simp] theorem State.present_todo (v : Word) (s : State) : (s.present v).todo = s.todo := by
  unfold State.present; split; · rfl
  split <;> first | rfl | (split <;> rfl)
@[simp] theorem State.present_responses (v : Word) (s : State) : (s.present v).responses = s.responses := by
  unfold State.present; split; · rfl
  split <;> first | rfl | (split <;> rfl)
@[simp] theorem State.present_hostFailed (v : Word) (s : State) : (s.present v).hostFailed = s.hostFailed := by
  unfold State.present; split; · rfl
  split <;> first | rfl | (split <;> rfl)

end present

section writeReg

@[simp] theorem State.writeReg_reg (r : RegName) (v : Word) (s : State) : (s.writeReg r v).reg = s.reg := by
  unfold State.writeReg; split <;> simp
@[simp] theorem State.writeReg_count (r : RegName) (v : Word) (s : State) : (s.writeReg r v).count = s.count := by
  unfold State.writeReg; split <;> simp
@[simp] theorem State.writeReg_cmbResult (r : RegName) (v : Word) (s : State) : (s.writeReg r v).cmbResult = s.cmbResult := by
  unfold State.writeReg; split <;> simp
@[simp] theorem State.writeReg_act (r : RegName) (v : Word) (s : State) : (s.writeReg r v).act = s.act := by
  unfold State.writeReg; split <;> simp
@[simp] theorem State.writeReg_table (r : RegName) (v : Word) (s : State) : (s.writeReg r v).table = s.table := by
  unfold State.writeReg; split <;> simp
@[simp] theorem State.writeReg_todo (r : RegName) (v : Word) (s : State) : (s.writeReg r v).todo = s.todo := by
  unfold State.writeReg; split <;> simp
@[simp] theorem State.writeReg_responses (r : RegName) (v : Word) (s : State) : (s.writeReg r v).responses = s.responses := by
  unfold State.writeReg; split <;> simp
@[simp] theorem State.writeReg_hostFailed (r : RegName) (v : Word) (s : State) : (s.writeReg r v).hostFailed = s.hostFailed := by
  unfold State.writeReg; split <;> simp

end writeReg

section readReg

@[simp] theorem State.readReg_irqEn (r : RegName) (s : State) : (s.readReg r).irqEn = s.irqEn := by
  unfold State.readReg; split <;> rfl
@[simp] theorem State.readReg_status (r : RegName) (s : State) : (s.readReg r).status = s.status := by
  unfold State.readReg; split <;> rfl
@[simp] theorem State.readReg_staging (r : RegName) (s : State) : (s.readReg r).staging = s.staging := by
  unfold State.readReg; split <;> rfl
@[simp] theorem State.readReg_din (r : RegName) (s : State) : (s.readReg r).din = s.din := by
  unfold State.readReg; split <;> rfl
@[simp] theorem State.readReg_reg (r : RegName) (s : State) : (s.readReg r).reg = s.reg := by
  unfold State.readReg; split <;> rfl
@[simp] theorem State.readReg_count (r : RegName) (s : State) : (s.readReg r).count = s.count := by
  unfold State.readReg; split <;> rfl
@[simp] theorem State.readReg_cmbA (r : RegName) (s : State) : (s.readReg r).cmbA = s.cmbA := by
  unfold State.readReg; split <;> rfl
@[simp] theorem State.readReg_cmbB (r : RegName) (s : State) : (s.readReg r).cmbB = s.cmbB := by
  unfold State.readReg; split <;> rfl
@[simp] theorem State.readReg_cmbLen (r : RegName) (s : State) : (s.readReg r).cmbLen = s.cmbLen := by
  unfold State.readReg; split <;> rfl
@[simp] theorem State.readReg_tagA (r : RegName) (s : State) : (s.readReg r).tagA = s.tagA := by
  unfold State.readReg; split <;> rfl
@[simp] theorem State.readReg_tagB (r : RegName) (s : State) : (s.readReg r).tagB = s.tagB := by
  unfold State.readReg; split <;> rfl
@[simp] theorem State.readReg_cmbResult (r : RegName) (s : State) : (s.readReg r).cmbResult = s.cmbResult := by
  unfold State.readReg; split <;> rfl
@[simp] theorem State.readReg_tblIndex (r : RegName) (s : State) : (s.readReg r).tblIndex = s.tblIndex := by
  unfold State.readReg; split <;> rfl
@[simp] theorem State.readReg_act (r : RegName) (s : State) : (s.readReg r).act = s.act := by
  unfold State.readReg; split <;> rfl
@[simp] theorem State.readReg_table (r : RegName) (s : State) : (s.readReg r).table = s.table := by
  unfold State.readReg; split <;> rfl
@[simp] theorem State.readReg_inflight (r : RegName) (s : State) : (s.readReg r).inflight = s.inflight := by
  unfold State.readReg; split <;> rfl
@[simp] theorem State.readReg_todo (r : RegName) (s : State) : (s.readReg r).todo = s.todo := by
  unfold State.readReg; split <;> rfl
@[simp] theorem State.readReg_hostFailed (r : RegName) (s : State) : (s.readReg r).hostFailed = s.hostFailed := by
  unfold State.readReg; split <;> rfl

end readReg

end Sys2Proof.Machine
end

