-- ==== Sys2Proof/Laws/Ops.lean ====
section
/-! SUPPORT. What each shared operation can do, said once: carrying out a command, the READY gate, a raced register, a
step of the two agents. -/

namespace Sys2Proof.Machine

/-- Carrying out a command that is carried (Safety.lean) is its completion on those operands. -/
theorem carryOut_of_carried {op arg : Byte} {snap : Snap} {s : State} (h : Carried op arg snap s)
    (g : Snap → State → State) : s.carryOut op arg g = g snap s := by
  unfold State.carryOut
  obtain ⟨hn, rfl⟩ | ⟨f, hf, rfl, rfl, rfl⟩ := h
  · rw [hn]
  · rw [hf]; simp

/-- Carrying out a command while another is in flight records BUSY_VIOLATION. -/
theorem carryOut_of_other {op arg : Byte} {f : InFlight} {s : State} (hf : s.inflight = some f)
    (h : f.op ≠ op ∨ f.arg ≠ arg) (g : Snap → State → State) :
    s.carryOut op arg g = s.record .busyViolation op := by
  unfold State.carryOut
  rw [hf]
  simp only
  rw [if_neg]
  rintro ⟨rfl, rfl⟩
  simp at h

/-- Everything carrying out a command can do: its completion on some operands, or the refusal of its word. -/
theorem carryOut_cases (op arg : Byte) (g : Snap → State → State) (s : State) :
    (∃ snap, Carried op arg snap s ∧ s.carryOut op arg g = g snap s) ∨
      (s.busy = true ∧ s.carryOut op arg g = s.record .busyViolation op) := by
  cases hi : s.inflight with
  | none => exact .inl ⟨s.snapshot, .inl ⟨hi, rfl⟩, by simp [State.carryOut, hi]⟩
  | some f =>
    by_cases h : f.op = op ∧ f.arg = arg
    · have hc : Carried op arg f.snap s := .inr ⟨f, hi, h.1, h.2, rfl⟩
      exact .inl ⟨f.snap, hc, carryOut_of_carried hc g⟩
    · exact .inr ⟨by simp [State.busy, hi], carryOut_of_other hi (by tauto) g⟩

/-- Everything the READY gate can do. -/
theorem ifReady_cases (op : Byte) (g : State → State) (s : State) :
    (s.status.ready = true ∧ s.ifReady op g = g s) ∨
      (s.status.ready = false ∧ s.ifReady op g = s.raise .notReady op) := by
  cases h : s.status.ready <;> simp [State.ifReady, h]

@[simp] theorem ifReady_of_ready {op : Byte} {g : State → State} {s : State} (h : s.status.ready = true) :
    s.ifReady op g = g s := by simp [State.ifReady, h]

@[simp] theorem ifReady_of_not_ready {op : Byte} {g : State → State} {s : State} (h : s.status.ready = false) :
    s.ifReady op g = s.raise .notReady op := by simp [State.ifReady, h]

/-- A register that no host write has raced holds what the command writes. -/
theorem landing_of_unraced {α : Type} {r : RegName} {s : State} (live new : α) (h : s.isRaced r = false) :
    s.landing r live new = new := by simp [State.landing, h]

/-- Everything a register a command writes can hold after the completion (70_reset_and_hazards.md R298). -/
theorem landing_cases {α : Type} (r : RegName) (live new : α) (s : State) :
    s.landing r live new = new ∨ (s.isRaced r = true ∧ s.landing r live new = live) := by
  unfold State.landing
  split
  · rename_i h; simp at h; exact .inr ⟨h.1, rfl⟩
  · exact .inl rfl

/-- A register that a host write has raced holds what the free choice says (70_reset_and_hazards.md R298, log 6). -/
theorem landing_of_raced {α : Type} {r : RegName} {s : State} (live new : α) (h : s.isRaced r = true) :
    s.landing r live new = if Config.writeAfter s.free r.offset then live else new := by simp [State.landing, h]

/-- With nothing raced, no register is. -/
theorem isRaced_of_unraced {s : State} (h : Unraced s) (r : RegName) : s.isRaced r = false := by
  unfold State.isRaced
  cases hi : s.inflight with
  | none => rfl
  | some f => simp [h f hi]

@[simp] theorem isRaced_of_idle {s : State} (h : s.inflight = none) (r : RegName) : s.isRaced r = false := by
  simp [State.isRaced, h]

@[simp] theorem record_err (e : ErrCode) (op : Byte) (st : Status) : (st.record e op).err = true := by
  unfold Status.record; split <;> simp_all

@[simp] theorem record_ready (e : ErrCode) (op : Byte) (st : Status) : (st.record e op).ready = st.ready := by
  unfold Status.record; split <;> rfl

@[simp] theorem record_done (e : ErrCode) (op : Byte) (st : Status) : (st.record e op).done = st.done := by
  unfold Status.record; split <;> rfl

/-- Recording keeps an error already recorded (60_exceptions.md R255). -/
theorem record_of_err {st : Status} (h : st.err = true) (e : ErrCode) (op : Byte) : st.record e op = st := by
  simp [Status.record, h]

/-- Recording an error does not depend on READY, and keeps it. -/
theorem record_setReady (e : ErrCode) (op : Byte) (b : Bool) (st : Status) :
    Status.record e op { st with ready := b } = { Status.record e op st with ready := b } := by
  rcases st with ⟨_, _, _ | _, _, _⟩ <;> rfl

/-- The command in flight that is due is the command in flight, in its last cycle. -/
theorem due_eq_some {s : State} {f : InFlight} : s.due = some f ↔ s.inflight = some f ∧ f.remaining ≤ 1 := by
  unfold State.due
  cases hi : s.inflight with
  | none => simp
  | some g =>
    by_cases h : g.remaining ≤ 1
    · simp only [if_pos h]
      exact ⟨fun e => by cases e; exact ⟨rfl, h⟩, fun e => e.1⟩
    · simp only [if_neg h]
      exact ⟨(fun e => nomatch e), fun e => absurd (Option.some.inj e.1 ▸ e.2) h⟩

@[simp] theorem due_of_idle {s : State} (h : s.inflight = none) : s.due = none := by simp [State.due, h]

@[simp] theorem tick_of_idle {s : State} (h : s.inflight = none) : s.tick = s := by simp [State.tick, h]

theorem tick_inflight (s : State) :
    s.tick.inflight = s.inflight.map (fun f => { f with remaining := f.remaining - 1 }) := by
  unfold State.tick
  cases hi : s.inflight <;> simp [hi]

@[simp] theorem busy_tick (s : State) : s.tick.busy = s.busy := by simp [State.busy, tick_inflight]

/-- The host's part of a cycle (Cycle.lean), by what it does: nothing but spend the cycle, a bus access, or SLVERR; an EXPECT
then checks what was read. -/
theorem hostStep_cases {s t : State} (h : hostStep s = .next t) :
    (∃ l, t = s.setTodo l) ∨
    (∃ l addr, exec (.rd addr) (s.setTodo l) = .next t) ∨
    (∃ l d x i, s.todo = .request d x :: l ∧ decodeBus d x = .ok i ∧ exec i (s.setTodo l) = .next t) ∨
    (∃ l, t = (s.setTodo l).respond (.slverr 0#64)) ∨
    (∃ l addr val u, exec (.rd addr) (s.setTodo l) = .next u ∧ t = hostExpects val u) := by
  have self : s.setTodo s.todo = s := rfl
  unfold hostStep at h
  split at h
  · cases h; exact .inl ⟨s.todo, self.symm⟩
  · rename_i d x l hl
    unfold hostRequest at h
    split at h
    · rename_i i hd; exact .inr (.inr (.inl ⟨l, d, x, i, hl, hd, h⟩))
    all_goals cases h; exact .inr (.inr (.inr (.inl ⟨l, rfl⟩)))
  · rename_i l hl
    split at h
    · exact .inr (.inl ⟨s.todo, _, self ▸ h⟩)
    · exact .inr (.inl ⟨l, _, h⟩)
  · rename_i addr val l hl
    split at h
    · rename_i u hu; cases h; exact .inr (.inr (.inr (.inr ⟨l, addr, val, u, hu, rfl⟩)))
    all_goals cases h
  · rename_i l hl; cases h; exact .inl ⟨l, rfl⟩
  · cases h; exact .inl ⟨s.todo, self.symm⟩

/-- Everything a step can do: a hardware reset, the completion of the command in flight, or the host's part of a cycle
(60_exceptions.md R263). -/
theorem step_cases {s t : State} (h : step s = .next t) :
    (∃ req rest, s.todo = .rstLow req :: rest ∧ t = resetCycle req rest s) ∨
    (∃ f i, s.due = some f ∧ f.command = some i ∧ exec i s = .next t) ∨
    (s.due = none ∧ hostStep s.tick = .next t) := by
  unfold step cycle at h
  split at h
  · rename_i req rest hl; cases h; exact .inl ⟨req, rest, hl, rfl⟩
  all_goals
    split at h
    · rename_i f hf
      unfold engineStep at h
      split at h
      · rename_i i hi; exact .inr (.inl ⟨f, i, hf, hi, h⟩)
      · cases h
    · rename_i hd; exact .inr (.inr ⟨hd, h⟩)

/-- A step with `rst_n` high and a completion due is the exec of the command in flight. -/
theorem step_of_due {s : State} {f : InFlight} {i : Instr} (hr : ∀ req rest, s.todo ≠ .rstLow req :: rest)
    (hd : s.due = some f) (hi : f.command = some i) : step s = exec i s := by
  unfold step cycle
  split
  · rename_i req rest hl; exact absurd hl (hr req rest)
  all_goals rw [hd]; simp [engineStep, hi]

/-- A step with `rst_n` high and no completion due is the host's part of the cycle. -/
theorem step_of_not_due {s : State} (hr : ∀ req rest, s.todo ≠ .rstLow req :: rest) (hd : s.due = none) :
    step s = hostStep s.tick := by
  unfold step cycle
  split
  · rename_i req rest hl; exact absurd hl (hr req rest)
  all_goals rw [hd]

/-- A step with `rst_n` low is a hardware reset. -/
theorem step_of_reset {s : State} {req : Option (BitVec 16 × Word)} {rest : List HostStmt}
    (h : s.todo = .rstLow req :: rest) : step s = .next (resetCycle req rest s) := by
  unfold step cycle
  split
  · rename_i req' rest' hl; rw [h] at hl; cases hl; rfl
  all_goals rename_i hl; rw [h] at hl; cases hl

/-- A run of one step more goes on from the step's next state. -/
theorem core_run_succ {s t : State} (h : step s = .next t) (n : Nat) : core.run (n + 1) s = core.run n t := by
  have unfolds : ∀ (m : Host.Core) (u : m.State), m.run (n + 1) u =
      match m.step u with
      | .next v => m.run n v
      | .fault r => .fault r
      | .refused r => .refused r := fun _ _ => rfl
  refine (unfolds core s).trans ?_
  rw [show core.step s = .next t from h]

/-- SLICE_N is one of the five values of 00_scope.md R8. -/
theorem sliceN_mem : Config.sliceN ∈ [1, 2, 4, 8, 16] :=
  (by decide : ∀ c : Fin 5, 2 ^ c.val ∈ [1, 2, 4, 8, 16]) Config.sliceChoice

/-- `LAT` is positive (70_reset_and_hazards.md R299). -/
theorem latency_pos (k : Nat) (op arg : Byte) (operands : List Word) : 1 ≤ Config.latency k op arg operands :=
  Nat.le_add_left 1 _

/-- The pairs of 70_reset_and_hazards.md R298: the registers a host write to which races a command in flight. -/
theorem mem_hazardWrites {r : RegName} {op : Byte} : r ∈ hazardWrites op ↔
    op = 0x04#8 ∧ r ∈ [.cmbA, .cmbTag] ∨ op = 0x05#8 ∧ r ∈ [.cmbB, .cmbTag, .cmbLen] ∨
      op = 0x08#8 ∧ r ∈ [.cfg, .poly, .init, .xorout, .check] := by
  unfold hazardWrites
  repeat' split
  all_goals simp_all

/-- What storing in a register leaves unchanged, whatever the register (20_memory.md R87). -/
theorem storeReg_keeps (r : RegName) (v : Word) (s : State) :
    SameEngine s (s.storeReg r v) ∧ SameActive s (s.storeReg r v) ∧ SameResult s (s.storeReg r v) ∧
      (s.storeReg r v).status = s.status ∧ (s.storeReg r v).inflight = s.inflight ∧ (s.storeReg r v).todo = s.todo := by
  cases r <;> exact ⟨⟨rfl, rfl⟩, ⟨rfl, rfl⟩, ⟨rfl⟩, rfl, rfl, rfl⟩

/-- What a write of any register does to a machine with a command in flight: the command stays, with its snapshot and its
remaining cycles; the engine, READY and DONE do not change (60_exceptions.md R259, 70_reset_and_hazards.md R298). -/
theorem writeReg_of_busy {s : State} {f : InFlight} (hf : s.inflight = some f) (r : RegName) (v : Word) :
    (∃ l, (s.writeReg r v).inflight = some { f with raced := l }) ∧ SameEngine s (s.writeReg r v) ∧
      SameActive s (s.writeReg r v) ∧ SameResult s (s.writeReg r v) ∧ (s.writeReg r v).status.ready = s.status.ready ∧
      (s.writeReg r v).status.done = s.status.done ∧ (s.writeReg r v).todo = s.todo := by
  unfold State.writeReg
  split
  · have refused : s.present v = s.record .busyViolation (opcodeOf v) := by simp [State.present, State.busy, hf]
    rw [refused]
    exact ⟨⟨f.raced, hf⟩, ⟨rfl, rfl⟩, ⟨rfl, rfl⟩, ⟨rfl⟩, record_ready _ _ _, record_done _ _ _, rfl⟩
  · obtain ⟨engine, active, result, status, inflight, todo⟩ := storeReg_keeps r v s
    unfold State.noteRace
    rw [inflight, hf]
    simp only
    split
    · exact ⟨⟨_, rfl⟩, ⟨engine.1, engine.2⟩, ⟨active.1, active.2⟩, ⟨result.1⟩, by simp, by simp, todo⟩
    · exact ⟨⟨f.raced, by rw [inflight, hf]⟩, engine, active, result, by rw [status], by rw [status], todo⟩

/-- What a read does: one answer, and at most one draw. -/
theorem readReg_eq (r : RegName) (s : State) :
    ∃ v k, s.readReg r = { s with responses := .read v :: s.responses, free := k } := by
  unfold State.readReg
  split
  · exact ⟨_, _, rfl⟩
  · exact ⟨_, s.free, rfl⟩

/-- What RD does, whatever its offset: it answers the host and draws at most one free value (20_memory.md R79). -/
theorem execRd_eq {addr : BitVec 12} {s t : State} (h : exec (.rd addr) s = .next t) :
    ∃ a k, t = { s with responses := a :: s.responses, free := k } := by
  simp only [exec, execRd] at h
  split at h
  · split at h
    · rename_i r _
      obtain ⟨v, k, hv⟩ := readReg_eq r s
      cases h; exact ⟨.read v, k, hv⟩
    · cases h; exact ⟨_, s.free, rfl⟩
  · cases h; exact ⟨_, s.free, rfl⟩

/-- What WR does: an answer after the write of a register, or the answer alone. -/
theorem execWr_cases {addr : BitVec 12} {x : Word} {s t : State} (h : exec (.wr addr x) s = .next t) :
    (∃ r, regAt addr = some r ∧ t = (s.writeReg r x).respond .written) ∨ (∃ a, t = s.respond a) := by
  simp only [exec, execWr] at h
  split at h
  · split at h
    · rename_i r hr; cases h; exact .inl ⟨r, hr, rfl⟩
    · cases h; exact .inr ⟨_, rfl⟩
  · cases h; exact .inr ⟨_, rfl⟩

/-- Everything presenting a word to CMD can do (43_host_access.md R224). -/
theorem present_cases (v : Word) (s : State) :
    (s.busy = true ∧ s.present v = s.record .busyViolation (opcodeOf v)) ∨
    (s.busy = false ∧ ∃ e op, s.present v = s.rejectWord e op) ∨
    (s.busy = false ∧ ∃ i, decodeCmd v = .ok i ∧ i.issues = true ∧ s.present v = s.issue (opcodeOf v) (argOf v)) ∨
    (s.busy = false ∧ ∃ i, decodeCmd v = .ok i ∧ i.issues = false ∧ s.present v = s.clearSticky) := by
  unfold State.present
  by_cases hb : s.busy = true
  · exact .inl ⟨hb, by rw [if_pos hb]⟩
  rw [if_neg hb]
  simp only [Bool.not_eq_true] at hb
  cases hd : decodeCmd v with
  | illegalCmd op => exact .inr (.inl ⟨hb, _, _, rfl⟩)
  | badArg op => exact .inr (.inl ⟨hb, _, _, rfl⟩)
  | illegalAccess =>
    exfalso
    unfold decodeCmd at hd
    simp only at hd
    split at hd; · cases hd
    split at hd; · cases hd
    split at hd; · cases hd
    split at hd; · cases hd
    split at hd <;> cases hd
  | ok i =>
    cases hi : i.issues
    · exact .inr (.inr (.inr ⟨hb, i, rfl, hi, by simp [hi]⟩))
    · exact .inr (.inr (.inl ⟨hb, i, rfl, hi, by simp [hi]⟩))

end Sys2Proof.Machine
end

