-- ==== Sys2Proof/Laws/PerInstr.lean ====
section
/-! SUPPORT. One law for every instruction: a legal form's word is one of its opcode-table row, match under mask, of the
row's width (spec/opcode_table.json, 30_encoding.md R102, R108). -/

namespace Sys2Proof.Laws.TableRow

/-- The encoding of a legal form has the bits its row of the opcode table fixes. -/
def Statement (i : Instr) : Prop :=
  WellFormed i →
    match encode i with
    | .command v => i.row.1 = 64 ∧ v &&& BitVec.ofNat 64 i.row.2.2 = BitVec.ofNat 64 i.row.2.1
    | .bus d _ => i.row.1 = 16 ∧ d &&& BitVec.ofNat 16 i.row.2.2 = BitVec.ofNat 16 i.row.2.1

theorem nop : Statement .nop := fun _ => ⟨rfl, rfl⟩

theorem config : Statement .config := fun _ => ⟨rfl, rfl⟩

theorem reset : Statement .reset := fun _ => ⟨rfl, rfl⟩

theorem update (nbytes : Byte) : Statement (.update nbytes) :=
  fun _ => ⟨rfl, by revert nbytes; decide +kernel⟩

theorem captureA : Statement .captureA := fun _ => ⟨rfl, rfl⟩

theorem captureB : Statement .captureB := fun _ => ⟨rfl, rfl⟩

theorem combine : Statement .combine := fun _ => ⟨rfl, rfl⟩

theorem selftest : Statement .selftest := fun _ => ⟨rfl, rfl⟩

theorem loadPreset (preset : Byte) : Statement (.loadPreset preset) :=
  fun _ => ⟨rfl, by revert preset; decide +kernel⟩

theorem clear : Statement .clear := fun _ => ⟨rfl, rfl⟩

theorem rd (addr : BitVec 12) : Statement (.rd addr) := by
  intro h
  exact ⟨rfl, (by decide +kernel : ∀ a : BitVec 12, a.toNat % 8 = 0 →
    busDesc false a &&& 0xF007#16 = 0x3000#16) addr (by simpa [WellFormed, Instr.wellFormed] using h)⟩

theorem wr (addr : BitVec 12) (data : Word) : Statement (.wr addr data) := by
  intro h
  exact ⟨rfl, (by decide +kernel : ∀ a : BitVec 12, a.toNat % 8 = 0 →
    busDesc true a &&& 0xF007#16 = 0xB000#16) addr (by simpa [WellFormed, Instr.wellFormed] using h)⟩

end Sys2Proof.Laws.TableRow
end

