-- ==== Sys2Proof/Tests/Slice0.lean ====
section
/-! SUPPORT. Tests of the model on fixed values, taken from the encodings of 30_encoding.md and the vectors of
95_test_vectors.md; and for every statement with hypotheses a state and operands that meet them. -/

namespace Sys2Proof.Tests

open Sys2Proof.Machine

/-- The part of a next state a test looks at; none if the machine stopped. -/
def got {α : Type} (look : State → α) : Host.Outcome State Fault Refusal → Option α
  | .next s => some (look s)
  | .fault _ | .refused _ => none

/-- CRCE configured with a spec, its engine freshly initialised and DONE set, as a CONFIG leaves it. -/
def configured (sp : Spec) : State :=
  { State.reset with
    staging := sp, act := Act.latch sp, table := buildTable (Act.latch sp), reg := sp.init
    status := { State.reset.status with ready := true, done := true } }

/-- The state after `PRESET 0` from reset (95_test_vectors.md, conventions). -/
def preset0 : State := configured (presetSpec 0#8)

/-- The state after `PRESET 1` from reset. -/
def preset1 : State := configured (presetSpec 1#8)

/-- The spec of vector V-TB-12: REFIN = 0. -/
def spec12 : Spec where
  ctrl := { width := 32#8, refin := false, refout := false, specId := 3#8 }
  poly := 0x04C11DB7#64
  init := 0xFFFFFFFF#64
  xorout := 0xFFFFFFFF#64
  check := 0xFC891918#64

/-- The spec S_A of vector V-EN-11: REFOUT = 1 and INIT other than XOROUT. -/
def specA : Spec where
  ctrl := { width := 32#8, refin := true, refout := true, specId := 6#8 }
  poly := 0xEDB88320#64
  init := 0x12345678#64
  xorout := 0x0F0F0F0F#64
  check := 0xA426B0E8#64

/-- `s` with a command in flight on the registers as they stand, with n cycles to go. -/
def flying (op arg : Byte) (n : Nat) (s : State) : State :=
  { s with inflight := some { op := op, arg := arg, snap := s.snapshot, remaining := n, raced := [] } }

/-- `s` with statements for the host. -/
def doing (l : List HostStmt) (s : State) : State := { s with todo := l }

/-! Well-formedness: each check accepts its bound and refuses the first value past it. -/

theorem test_wf_update : WellFormed (.update 8#8) ∧ ¬ WellFormed (.update 9#8) := by decide
theorem test_wf_loadPreset : WellFormed (.loadPreset 1#8) ∧ ¬ WellFormed (.loadPreset 2#8) := by decide
theorem test_wf_rd : WellFormed (.rd 0xFF8#12) ∧ ¬ WellFormed (.rd 0xFFC#12) := by decide
theorem test_wf_wr : WellFormed (.wr 0x018#12 0#64) ∧ ¬ WellFormed (.wr 0x019#12 0#64) := by decide

/-! Decoding: words written out from 30_encoding.md R104 and R108 (OPCODE in bits 7:0, ARG in 15:8), and descriptors from
R101 and R102 (WRITE in bit 15, SIZE in 14:12, ADDR in 11:0). -/

theorem test_decode_nop : decodeCmd 0x00#64 = .ok .nop := by decide
theorem test_decode_config : decodeCmd 0x01#64 = .ok .config := by decide
theorem test_decode_reset : decodeCmd 0x02#64 = .ok .reset := by decide
theorem test_decode_update : decodeCmd 0x0803#64 = .ok (.update 8#8) := by decide
theorem test_decode_captureA : decodeCmd 0x04#64 = .ok .captureA := by decide
theorem test_decode_captureB : decodeCmd 0x05#64 = .ok .captureB := by decide
theorem test_decode_combine : decodeCmd 0x06#64 = .ok .combine := by decide
theorem test_decode_selftest : decodeCmd 0x07#64 = .ok .selftest := by decide
theorem test_decode_loadPreset : decodeCmd 0x0108#64 = .ok (.loadPreset 1#8) := by decide
theorem test_decode_clear : decodeCmd 0x09#64 = .ok .clear := by decide
theorem test_decode_rd : decodeBus 0x3058#16 0#64 = .ok (.rd 0x058#12) := by decide
theorem test_decode_wr : decodeBus 0xB018#16 0x0803#64 = .ok (.wr 0x018#12 0x0803#64) := by decide
/-- The illegal words of 30_encoding.md R115, and an OPCODE one past the last. -/
theorem test_decode_illegal :
    decodeCmd 0x0903#64 = .badArg 0x03#8 ∧ decodeCmd 0x0208#64 = .badArg 0x08#8 ∧
    decodeCmd 0x10001#64 = .illegalCmd 0x01#8 ∧ decodeCmd 0x0109#64 = .illegalCmd 0x09#8 ∧
    decodeCmd 0x0A#64 = .illegalCmd 0x0A#8 := by decide
/-- A wrong SIZE and a misaligned ADDR (20_memory.md R72). -/
theorem test_decode_illegal_access :
    decodeBus 0x2058#16 0#64 = .illegalAccess ∧ decodeBus 0x305C#16 0#64 = .illegalAccess := by decide
/-- The host's two definitions on a row of each width. -/
theorem test_table_word :
    decodeTableWord 64 0x0803 = some (.update 8#8) ∧ decodeTableWord 16 0xB018 = some (.wr 0x018#12 0#64) := by decide

/-! One step of each instruction, against 95_test_vectors.md. -/

/-- V-EN-13. -/
theorem test_nop : got State.statusWord (exec .nop { State.reset with irqEn := ⟨true, false⟩ }) = some 0x14#64 := by
  decide +kernel
/-- V-TB-6, V-TB-1. -/
theorem test_config_preset0 :
    got (fun t => (t.statusWord, t.reg, tableAt t.table 0x03#8))
      (exec .config { State.reset with staging := presetSpec 0#8 }) = some (0x6#64, 0xFFFFFFFF#64, 0x990951BA#64) := by
  decide +kernel
/-- V-TB-5 (b). -/
theorem test_config_width :
    got (fun t => (t.statusWord, t.act.poly, t.act.check))
      (exec .config { State.reset with
        staging := { State.reset.staging with ctrl := Ctrl.ofWord 0x10121#64, poly := 0xFFFFFFFFEDB88320#64, check := 0xABCD#64 } })
      = some (0x1010C#64, 0xFFFFFFFFEDB88320#64, 0xABCD#64) := by decide +kernel
/-- V-EN-7 (a). -/
theorem test_reset :
    got (fun t => (t.reg, t.count, t.statusWord)) (exec .reset { preset0 with reg := 0x7C231048#64, count := 1#64 })
      = some (0xFFFFFFFF#64, 0#64, 0x6#64) := by decide +kernel
/-- V-EN-1 "12". -/
theorem test_update_reflected :
    got (fun t => (t.reg, t.count)) (exec (.update 2#8) { preset0 with din := 0x3231#64 })
      = some (0xB0ACBB32#64, 2#64) := by decide +kernel
/-- V-EN-9 "1234". -/
theorem test_update_unreflected :
    got (fun t => (t.reg, t.count)) (exec (.update 4#8) { configured spec12 with din := 0x34333231#64 })
      = some (0xA695C4AA#64, 4#64) := by decide +kernel
/-- V-CB-1. -/
theorem test_captureA :
    got (fun t => (t.cmbA, t.tagA, t.tagB, t.cmbLen)) (exec .captureA { preset0 with reg := 0x641C1F5C#64, count := 4#64 })
      = some (0x9BE3E0A3#64, 1#8, 0#8, 0#64) := by decide +kernel
/-- V-EN-11 S_A: REFOUT = 1 reverses before the XOR. -/
theorem test_captureA_refout :
    got (fun t => t.cmbA) (exec .captureA { configured specA with reg := 0xE7FD94D5#64 })
      = some 0xA426B0E8#64 := by decide +kernel
/-- V-CB-2. -/
theorem test_captureB :
    got (fun t => (t.cmbB, t.tagB, t.cmbLen, t.tagA))
      (exec .captureB { preset0 with reg := 0xECE25F8F#64, count := 5#64, tagA := 1#8 })
      = some (0x131DA070#64, 1#8, 5#64, 1#8) := by decide +kernel
/-- V-CB-14 S_A: the INIT term and REFOUT = 1. -/
theorem test_combine :
    got (fun t => t.cmbResult) (exec .combine { configured specA with
        cmbA := 0x81E97E23#64, cmbB := 0x4E86B99A#64, cmbLen := 5#64, tagA := 6#8, tagB := 6#8 })
      = some 0xA426B0E8#64 := by decide +kernel
/-- V-CB-6, V-CB-7: the tag check comes before the zero length. -/
theorem test_combine_mismatch :
    got (fun t => (t.cmbResult, t.statusWord))
      (exec .combine { preset0 with tagA := 1#8, tagB := 2#8, cmbResult := 0x12345678#64 })
      = some (0x12345678#64, 0x6030E#64) := by decide +kernel
/-- V-TB-14 (a). -/
theorem test_selftest_not_ready : got State.statusWord (exec .selftest State.reset) = some 0x7040C#64 := by
  decide +kernel
/-- V-TB-14 (b). -/
theorem test_selftest :
    got (fun t => (t.statusWord, t.reg, t.count)) (exec .selftest { preset0 with reg := 0xB0ACBB32#64, count := 2#64 })
      = some (0x6#64, 0xB0ACBB32#64, 2#64) := by decide +kernel
/-- V-TB-11 (a). -/
theorem test_loadPreset :
    got (fun t => (t.regValue .cfg, t.regValue .poly, t.statusWord)) (exec (.loadPreset 1#8) State.reset)
      = some (0x20140#64, 0x9A6C9329AC4BC9B5#64, 0x4#64) := by decide +kernel
/-- V-CB-6's STATUS before and after a CLEAR (43_host_access.md R222). -/
theorem test_clear :
    got State.statusWord (exec .clear { preset0 with status := ⟨true, true, true, .mismatchedSpec, 0x06#8⟩ })
      = some 0x2#64 := by decide +kernel
/-- V-HA-1. -/
theorem test_rd_id : got (fun t => t.responses) (exec (.rd 0x000#12) State.reset) = some [.read 0x743524345#64] := by
  decide +kernel
/-- V-EN-1 "1": DIGEST; and a reserved offset reads 0 (10_state.md R60). -/
theorem test_rd_digest :
    got (fun t => t.responses) (exec (.rd 0x058#12) { preset0 with reg := 0x7C231048#64 })
      = some [.read 0x83DCEFB7#64] ∧
    got (fun t => t.responses) (exec (.rd 0x0C8#12) preset0) = some [.read 0#64] := by decide +kernel
/-- V-CB-10's CMB_TAG, and CFG's mask (10_state.md R34, R46). -/
theorem test_wr_masks :
    got (fun t => t.regValue .cmbTag) (exec (.wr 0x080#12 0xFFFF0101#64) State.reset) = some 0x0101#64 ∧
    got (fun t => t.regValue .cfg) (exec (.wr 0x020#12 (BitVec.allOnes 64)) State.reset) = some 0xFF03FF#64 := by
  decide +kernel
/-- V-EN-5, V-EN-14: words CMD refuses. -/
theorem test_wr_cmd_refused :
    got State.statusWord (exec (.wr 0x018#12 0x0903#64) preset0) = some 0x3050E#64 ∧
    got State.statusWord (exec (.wr 0x018#12 0x10003#64) State.reset) = some 0x3060C#64 := by decide +kernel
/-- A placed word is the instruction the next step runs. -/
theorem test_step_runs_placed_word :
    got State.statusWord (step (State.reset.withFetchWord 64 0x00)) = some 0x4#64 ∧
    got (fun t => t.responses) (step (State.reset.withFetchWord 16 0x3000)) = some [.read 0x743524345#64] := by
  decide +kernel
/-- An offset of the window, and the first address past it (20_memory.md R70). -/
theorem test_window : windowOffset 0x5000 0x5058 = some 0x058#12 ∧ windowOffset 0x5000 0x6000 = none := by decide
/-- `FEED` (30_encoding.md R114): the write of DIN, the write of UPDATE's word to CMD, and the wait. -/
theorem test_assemble_feed :
    assemble (.feed 0x39#64 1#8) = some [.request 0xB048#16 0x39#64, .request 0xB018#16 0x103#64, .wait] := by
  decide +kernel

/-! Witnesses: a state and operands that meet the hypotheses of each statement, one for each of its clauses. -/

theorem test_hyps_DecodeOfEncode :
    WellFormed .nop ∧ WellFormed (.update 8#8) ∧ WellFormed (.loadPreset 1#8) ∧ WellFormed (.wr 0xFF8#12 5#64) := by decide
theorem test_hyps_EncodeOfDecode :
    decodeCmd 0x0803#64 = .ok (.update 8#8) ∧ decodeBus 0x3FF8#16 5#64 = .ok (.rd 0xFF8#12) := by decide
theorem test_hyps_CompletionComesFirst :
    ∃ f, (flying 0x03#8 8#8 1 preset0).inflight = some f ∧ f.remaining ≤ 1 ∧ f.command = some (.update 8#8) ∧
      (∀ req rest, (flying 0x03#8 8#8 1 preset0).todo ≠ .rstLow req :: rest) :=
  ⟨_, rfl, by decide, by decide, nofun⟩
theorem test_hyps_CompletionComesFirst_reset :
    (doing [.rstLow none] (flying 0x03#8 8#8 1 preset0)).todo = .rstLow none :: [] := rfl
theorem test_hyps_RequestRunsTheAccess :
    (doing [.request 0x3058#16 0#64] (flying 0x03#8 8#8 2 preset0)).due = none ∧
      (doing [.request 0x3058#16 0#64] (flying 0x03#8 8#8 2 preset0)).todo = .request 0x3058#16 0#64 :: [] ∧
      decodeBus 0x3058#16 0#64 = .ok (.rd 0x058#12) := ⟨rfl, rfl, by decide⟩
theorem test_hyps_IllegalAccessHasNoEffect :
    (doing [.request 0x3001#16 0#64] (flying 0x03#8 8#8 2 preset0)).due = none ∧
      (doing [.request 0x3001#16 0#64] (flying 0x03#8 8#8 2 preset0)).todo = .request 0x3001#16 0#64 :: [] ∧
      0x3001#16 &&& 0x7007#16 ≠ 0x3000#16 ∧ 0x2000#16 &&& 0x7007#16 ≠ 0x3000#16 ∧ (0x007#12).toNat % 8 ≠ 0 :=
  ⟨rfl, rfl, by decide, by decide, by decide⟩
theorem test_hyps_ClockCountsDown :
    (∃ f, (flying 0x03#8 8#8 2 preset0).todo = [] ∧ (flying 0x03#8 8#8 2 preset0).inflight = some f ∧ f.remaining = 0 + 2) ∧
      preset0.todo = [] ∧ preset0.inflight = none := ⟨⟨_, rfl, rfl, rfl⟩, rfl, rfl⟩
theorem test_hyps_CommandCompletesInTime :
    (∃ f, (flying 0x01#8 0#8 4 preset0).todo = [] ∧ (flying 0x01#8 0#8 4 preset0).inflight = some f ∧
      f.remaining = 3 + 1 ∧ f.command = some .config) ∧
    ∃ f, (doing [.request 0xB018#16 0x2#64, .wait] (flying 0x01#8 0#8 4 preset0)).inflight = some f ∧
      f.remaining = 3 + 1 ∧ f.command = some .config ∧
      ∀ req, .rstLow req ∉ (doing [.request 0xB018#16 0x2#64, .wait] (flying 0x01#8 0#8 4 preset0)).todo :=
  ⟨⟨_, rfl, rfl, rfl, by decide⟩, _, rfl, rfl, by decide, fun _ => by simp [doing]⟩
theorem test_hyps_HardwareResetRestores :
    (doing [.rstLow (some (0x3058#16, 0#64)), .idle] preset0).todo = .rstLow (some (0x3058#16, 0#64)) :: [.idle] ∧
      (doing [.rstLow none] preset0).todo = .rstLow none :: [] := ⟨rfl, rfl⟩
/-- An idle machine, and one with the command in flight, carry a command out. -/
theorem test_hyps_NopCompletes :
    Carried 0x00#8 0#8 preset0.snapshot preset0 ∧ Carried 0x00#8 0#8 preset0.snapshot (flying 0x00#8 0#8 1 preset0) :=
  ⟨.inl ⟨rfl, rfl⟩, .inr ⟨_, rfl, rfl, rfl, rfl⟩⟩
theorem test_hyps_ConfigBuildsAndInitialises :
    Carried 0x01#8 0#8 preset0.snapshot (flying 0x01#8 0#8 1 preset0) ∧
      preset0.snapshot.spec.ctrl.width = BitVec.ofNat 8 32 ∧
      preset0.act = { ctrl := preset0.snapshot.spec.ctrl, w := 32,
                      poly := preset0.snapshot.spec.poly &&& BitVec.ofNat 64 (2 ^ 32 - 1),
                      init := preset0.snapshot.spec.init &&& BitVec.ofNat 64 (2 ^ 32 - 1),
                      xorout := preset0.snapshot.spec.xorout &&& BitVec.ofNat 64 (2 ^ 32 - 1),
                      check := preset0.snapshot.spec.check &&& BitVec.ofNat 64 (2 ^ 32 - 1) } ∧
      selftestDigest preset0.act (buildTable preset0.act) = preset0.act.check :=
  ⟨.inr ⟨_, rfl, rfl, rfl, rfl⟩, rfl, by decide, by decide +kernel⟩

theorem test_hyps_ConfigBuildsAndInitialises64 :
    Carried 0x01#8 0#8 preset1.snapshot preset1 ∧ preset1.snapshot.spec.ctrl.width = BitVec.ofNat 8 64 ∧
      preset1.act = { ctrl := preset1.snapshot.spec.ctrl, w := 64,
                      poly := preset1.snapshot.spec.poly &&& BitVec.ofNat 64 (2 ^ 64 - 1),
                      init := preset1.snapshot.spec.init &&& BitVec.ofNat 64 (2 ^ 64 - 1),
                      xorout := preset1.snapshot.spec.xorout &&& BitVec.ofNat 64 (2 ^ 64 - 1),
                      check := preset1.snapshot.spec.check &&& BitVec.ofNat 64 (2 ^ 64 - 1) } ∧
      selftestDigest preset1.act (buildTable preset1.act) = preset1.act.check :=
  ⟨.inl ⟨rfl, rfl⟩, rfl, by decide, by decide +kernel⟩
theorem test_hyps_ConfigRefusesWidth :
    Carried 0x01#8 0#8 State.reset.snapshot State.reset ∧ State.reset.snapshot.spec.ctrl.width ≠ 32#8 ∧
      State.reset.snapshot.spec.ctrl.width ≠ 64#8 := ⟨.inl ⟨rfl, rfl⟩, by decide, by decide⟩
/-- V-TB-8: preset 0 with CHECK = 0. -/
def wrongCheck : State := configured { presetSpec 0#8 with check := 0#64 }
theorem test_hyps_SelftestMismatchIsAnError :
    Carried 0x01#8 0#8 wrongCheck.snapshot wrongCheck ∧ widthLegal wrongCheck.snapshot.spec.ctrl.width = true ∧
      selftestDigest (Act.latch wrongCheck.snapshot.spec) (buildTable (Act.latch wrongCheck.snapshot.spec))
        ≠ (Act.latch wrongCheck.snapshot.spec).check ∧
      Carried 0x07#8 0#8 wrongCheck.snapshot wrongCheck ∧ wrongCheck.status.ready = true ∧
      selftestDigest wrongCheck.act wrongCheck.table ≠ wrongCheck.act.check :=
  ⟨.inl ⟨rfl, rfl⟩, rfl, by decide +kernel, .inl ⟨rfl, rfl⟩, rfl, by decide +kernel⟩

theorem test_hyps_SelftestCompletes :
    Carried 0x07#8 0#8 preset0.snapshot preset0 ∧ preset0.status.ready = true ∧
      fin preset0.act (checkString.foldl (stepByte preset0.act preset0.table) preset0.act.init) = preset0.act.check :=
  ⟨.inl ⟨rfl, rfl⟩, rfl, by decide +kernel⟩

theorem test_hyps_ResetCommandRestores :
    Carried 0x02#8 0#8 preset0.snapshot (flying 0x02#8 0#8 1 preset0) ∧ (flying 0x02#8 0#8 1 preset0).status.ready = true :=
  ⟨.inr ⟨_, rfl, rfl, rfl, rfl⟩, rfl⟩
/-- Boundary values of NBYTES: 8 bytes, and none. -/
theorem test_hyps_UpdateProcessesBytes :
    Carried 0x03#8 8#8 preset0.snapshot (flying 0x03#8 8#8 1 preset0) ∧ preset0.status.ready = true ∧
      (List.replicate 8 0#8).length = (8#8).toNat ∧
      (∀ k, k < (8#8).toNat → (List.replicate 8 0#8)[k]? = some ((preset0.snapshot.din >>> (8 * k)).setWidth 8)) ∧
      Carried 0x03#8 0#8 preset0.snapshot preset0 ∧ ([] : List Byte).length = (0#8).toNat :=
  ⟨.inr ⟨_, rfl, rfl, rfl, rfl⟩, rfl, by decide, by decide, .inl ⟨rfl, rfl⟩, rfl⟩
theorem test_hyps_CapturesCopyDigest :
    Carried 0x04#8 0#8 preset0.snapshot (flying 0x04#8 0#8 1 preset0) ∧ Unraced (flying 0x04#8 0#8 1 preset0) ∧
      Carried 0x05#8 0#8 preset0.snapshot preset0 ∧ Unraced preset0 ∧ preset0.status.ready = true :=
  ⟨.inr ⟨_, rfl, rfl, rfl, rfl⟩, fun _ h => by cases h; rfl, .inl ⟨rfl, rfl⟩, nofun, rfl⟩
/-- A capture with a raced host write, and each clause's command. -/
theorem test_hyps_RacedWriteHasTwoOutcomes :
    (Carried 0x04#8 0#8 preset0.snapshot ((flying 0x04#8 0#8 1 preset0).writeReg .cmbA 5#64) ∧
      ((flying 0x04#8 0#8 1 preset0).writeReg .cmbA 5#64).isRaced .cmbA = true) ∧
    (Carried 0x05#8 0#8 preset0.snapshot ((flying 0x05#8 0#8 1 preset0).writeReg .cmbLen 5#64) ∧
      ((flying 0x05#8 0#8 1 preset0).writeReg .cmbLen 5#64).isRaced .cmbLen = true) ∧
    (Carried 0x08#8 1#8 preset0.snapshot ((flying 0x08#8 1#8 1 preset0).writeReg .cfg 5#64) ∧
      ((flying 0x08#8 1#8 1 preset0).writeReg .cfg 5#64).isRaced .cfg = true) ∧
    preset0.status.ready = true ∧ (1#8).toNat ≤ 1 ∧ RegName.cmbA ≠ .cmd ∧ RegName.cmbTag ≠ .cmbA :=
  ⟨⟨.inr ⟨_, rfl, rfl, rfl, rfl⟩, rfl⟩, ⟨.inr ⟨_, rfl, rfl, rfl, rfl⟩, rfl⟩, ⟨.inr ⟨_, rfl, rfl, rfl, rfl⟩, rfl⟩, rfl,
    by decide, by decide, by decide⟩
/-- Preset 0 with both tags 1 and the given CMB_LEN. -/
def tagged (len : Word) : State := { preset0 with tagA := 1#8, tagB := 1#8, cmbA := 0x9BE3E0A3#64, cmbLen := len }
theorem test_hyps_CombineComputes :
    Carried 0x06#8 0#8 (tagged 1#64).snapshot (tagged 1#64) ∧ (tagged 1#64).status.ready = true ∧
      (tagged 1#64).snapshot.tagA = (tagged 1#64).act.ctrl.specId ∧
      (tagged 1#64).snapshot.tagB = (tagged 1#64).act.ctrl.specId ∧ (tagged 1#64).snapshot.cmbLen ≠ 0#64 :=
  ⟨.inl ⟨rfl, rfl⟩, rfl, rfl, rfl, by decide⟩
theorem test_hyps_CombineZeroLength :
    Carried 0x06#8 0#8 (tagged 0#64).snapshot (tagged 0#64) ∧ (tagged 0#64).status.ready = true ∧
      (tagged 0#64).snapshot.tagA = (tagged 0#64).act.ctrl.specId ∧
      (tagged 0#64).snapshot.tagB = (tagged 0#64).act.ctrl.specId ∧ (tagged 0#64).snapshot.cmbLen = 0#64 :=
  ⟨.inl ⟨rfl, rfl⟩, rfl, rfl, rfl, rfl⟩
/-- The active spec of preset 0 and of preset 1 is a legal one. -/
theorem test_hyps_ActLegal : ActLegal preset0.act ∧ ActLegal preset1.act :=
  ⟨⟨by decide, by decide, by decide, by decide, by decide, by decide⟩,
    ⟨by decide, by decide, by decide, by decide, by decide, by decide⟩⟩
theorem test_hyps_TableIsLinear :
    ActLegal preset0.act ∧ preset0.act.ctrl.refin = true ∧
      ActLegal (configured spec12).act ∧ (configured spec12).act.ctrl.refin = false :=
  ⟨test_hyps_ActLegal.1, rfl, ⟨by decide, by decide, by decide, by decide, by decide, by decide⟩, rfl⟩
/-- Legal specs of both widths with the largest value each admits: for UnfinInvertsFin, ByteStepIsBitSerial, AffineLaw,
SquaringIsIteration and the second clause of CombineZeroLength. -/
theorem test_hyps_ActLegal_Fits :
    (ActLegal preset0.act ∧ Fits preset0.act.w 0xFFFFFFFF#64) ∧ (ActLegal preset1.act ∧ Fits preset1.act.w (BitVec.allOnes 64)) :=
  ⟨⟨test_hyps_ActLegal.1, by decide⟩, ⟨test_hyps_ActLegal.2, by decide⟩⟩
theorem test_hyps_MismatchedTagsAreRefused :
    Carried 0x06#8 0#8 preset0.snapshot preset0 ∧ preset0.status.ready = true ∧
      preset0.snapshot.tagA ≠ preset0.act.ctrl.specId ∧ preset0.snapshot.tagB ≠ preset0.act.ctrl.specId :=
  ⟨.inl ⟨rfl, rfl⟩, rfl, by decide, by decide⟩
/-- Only TAG_A wrong, and only TAG_B wrong. -/
theorem test_hyps_MismatchedTagsAreRefused_one :
    (Carried 0x06#8 0#8 { preset0.snapshot with tagB := 1#8 } { preset0 with tagB := 1#8 } ∧
      { preset0.snapshot with tagB := 1#8 }.tagA ≠ preset0.act.ctrl.specId ∧
      { preset0.snapshot with tagB := 1#8 }.tagB = preset0.act.ctrl.specId) ∧
    (Carried 0x06#8 0#8 { preset0.snapshot with tagA := 1#8 } { preset0 with tagA := 1#8 } ∧
      { preset0.snapshot with tagA := 1#8 }.tagA = preset0.act.ctrl.specId ∧
      { preset0.snapshot with tagA := 1#8 }.tagB ≠ preset0.act.ctrl.specId) ∧ preset0.status.ready = true :=
  ⟨⟨.inl ⟨rfl, rfl⟩, by decide, rfl⟩, ⟨.inl ⟨rfl, rfl⟩, rfl, by decide⟩, rfl⟩
theorem test_hyps_LoadPresetWritesStaging :
    Carried 0x08#8 0#8 State.reset.snapshot State.reset ∧ Unraced State.reset ∧
      Carried 0x08#8 1#8 State.reset.snapshot (flying 0x08#8 1#8 1 State.reset) ∧ Unraced (flying 0x08#8 1#8 1 State.reset) :=
  ⟨.inl ⟨rfl, rfl⟩, nofun, .inr ⟨_, rfl, rfl, rfl, rfl⟩, fun _ h => by cases h; rfl⟩
theorem test_hyps_NotReadyIsRaised :
    (Carried 0x03#8 8#8 State.reset.snapshot State.reset ∧ State.reset.status.ready = false ∧ (8#8).toNat ≤ 8 ∧
      (0x03#8, 8#8, Instr.update 8#8) ∈ [(0x02#8, 0#8, Instr.reset), (0x03#8, 8#8, Instr.update 8#8),
        (0x04#8, 0#8, Instr.captureA), (0x05#8, 0#8, Instr.captureB), (0x06#8, 0#8, Instr.combine),
        (0x07#8, 0#8, Instr.selftest)]) ∧
      Carried 0x02#8 0#8 State.reset.snapshot (flying 0x02#8 0#8 1 State.reset) ∧
      Carried 0x04#8 0#8 State.reset.snapshot State.reset ∧ Carried 0x05#8 0#8 State.reset.snapshot State.reset ∧
      Carried 0x06#8 0#8 State.reset.snapshot State.reset ∧ Carried 0x07#8 0#8 State.reset.snapshot State.reset :=
  ⟨⟨.inl ⟨rfl, rfl⟩, rfl, by decide, by decide⟩, .inr ⟨_, rfl, rfl, rfl, rfl⟩, .inl ⟨rfl, rfl⟩, .inl ⟨rfl, rfl⟩,
    .inl ⟨rfl, rfl⟩, .inl ⟨rfl, rfl⟩⟩
theorem test_hyps_FirstErrorIsKept : State.reset.status.err = false ∧ ({ State.reset.status with err := true }).err = true :=
  ⟨rfl, rfl⟩
/-- An idle and a busy machine: for ClearReturnsFromError, BusyWriteIsRefused, and the idle clauses of CMD writes. -/
theorem test_hyps_busy : preset0.busy = false ∧ (flying 0x01#8 0#8 2 preset0).busy = true := ⟨rfl, rfl⟩
theorem test_hyps_ReadReturnsRegister :
    (RegName.din, 0x048#12) ∈ [(RegName.id, 0x000#12), (.irqEn, 0x008#12), (.status, 0x010#12), (.cmd, 0x018#12), (.cfg, 0x020#12),
       (.poly, 0x028#12), (.init, 0x030#12), (.xorout, 0x038#12), (.check, 0x040#12), (.din, 0x048#12),
       (.raw, 0x050#12), (.digest, 0x058#12), (.count, 0x060#12), (.cmbA, 0x068#12), (.cmbB, 0x070#12),
       (.cmbLen, 0x078#12), (.cmbTag, 0x080#12), (.cmbResult, 0x088#12), (.tblIndex, 0x090#12), (.tblData, 0x098#12),
       (.actCfg, 0x0A0#12), (.actPoly, 0x0A8#12), (.actInit, 0x0B0#12), (.actXorout, 0x0B8#12), (.actCheck, 0x0C0#12)] ∧
      (flying 0x03#8 8#8 2 preset0).readUnspecified .din = false ∧ preset0.readUnspecified .digest = false ∧
      (0x0C8#12).toNat % 8 = 0 ∧ 0x0C8 ≤ (0x0C8#12).toNat ∧ preset0.status.ready = true ∧
      State.reset.status.ready = false := by decide
theorem test_hyps_HazardReadAnswers : (flying 0x03#8 8#8 2 preset0).readUnspecified .digest = true := by decide
/-- For ReadsHaveNoEffect and WritesLeaveTheEngine: an access at any offset answers, a misaligned one too. -/
theorem test_hyps_accesses :
    (∃ t, exec (.rd 0x058#12) preset0 = .next t) ∧ (∃ t, exec (.rd 0xFFF#12) preset0 = .next t) ∧
      (∃ t, exec (.wr 0x018#12 0x1#64) preset0 = .next t) := ⟨⟨_, rfl⟩, ⟨_, rfl⟩, ⟨_, rfl⟩⟩
theorem test_hyps_ReadOnlyWriteIsIgnored :
    (RegName.actCheck, 0x0C0#12) ∈ [(RegName.id, 0x000#12), (.status, 0x010#12), (.raw, 0x050#12), (.digest, 0x058#12),
      (.count, 0x060#12), (.cmbResult, 0x088#12), (.tblData, 0x098#12), (.actCfg, 0x0A0#12),
      (.actPoly, 0x0A8#12), (.actInit, 0x0B0#12), (.actXorout, 0x0B8#12), (.actCheck, 0x0C0#12)] ∧
      (0x0C8#12).toNat % 8 = 0 ∧ 0x0C8 ≤ (0x0C8#12).toNat ∧ (0xFF8#12).toNat % 8 = 0 ∧ 0x0C8 ≤ (0xFF8#12).toNat := by
  decide
theorem test_hyps_StorageWriteReadsBack :
    (RegName.tblIndex, 0x090#12, 0xFF#64) ∈ [(RegName.irqEn, 0x008#12, 0x3#64), (.cfg, 0x020#12, 0x0000000000FF03FF#64), (.poly, 0x028#12, BitVec.allOnes 64),
      (.init, 0x030#12, BitVec.allOnes 64), (.xorout, 0x038#12, BitVec.allOnes 64), (.check, 0x040#12, BitVec.allOnes 64),
      (.din, 0x048#12, BitVec.allOnes 64), (.cmbA, 0x068#12, BitVec.allOnes 64), (.cmbB, 0x070#12, BitVec.allOnes 64),
      (.cmbLen, 0x078#12, BitVec.allOnes 64), (.cmbTag, 0x080#12, 0xFFFF#64), (.tblIndex, 0x090#12, 0xFF#64)] := by decide
/-- One word for each reason of RejectedWordIsRecorded, at the boundary, and the first ARG past each range. -/
theorem test_hyps_RejectedWordIsRecorded :
    preset0.busy = false ∧ 65536 ≤ (0x10000#64).toNat ∧ 0x0A ≤ (0x0A#64).toNat % 256 ∧
      ((0x0109#64).toNat % 256 ≠ 3 ∧ (0x0109#64).toNat % 256 ≠ 8 ∧ (0x0109#64).toNat / 256 % 256 ≠ 0) ∧
      8 < (9#8).toNat ∧ 1 < (2#8).toNat := by decide
theorem test_hyps_CommandWriteIssues :
    preset0.busy = false ∧ encode .clear = .command 0x9#64 ∧ WellFormed .clear ∧
      encode .config = .command 0x1#64 ∧ WellFormed .config ∧ Instr.config ≠ .clear := by decide
theorem test_hyps_ExecAwayFromCompletion :
    (preset0.busy = false ∧ encode (.update 3#8) = .command 0x303#64 ∧ WellFormed (.update 3#8) ∧
        Instr.update 3#8 ≠ .clear) ∧
      ∃ f, (flying 0x03#8 8#8 2 preset0).inflight = some f ∧ (Instr.update 3#8).issues = true ∧
        encode (.update 3#8) = .command (commandWord 0x03#8 3#8) ∧ (f.op ≠ 0x03#8 ∨ f.arg ≠ 3#8) :=
  ⟨by decide, _, rfl, rfl, by decide, .inr (by decide)⟩
/-- For the frames: every command answers a next state, in flight or not. -/
theorem test_hyps_EngineCommandFrame :
    (∃ t, exec (.update 8#8) preset0 = .next t) ∧ (∃ t, exec .reset State.reset = .next t) ∧
      (∃ t, exec .nop preset0 = .next t) ∧ (∃ t, exec .selftest preset0 = .next t) ∧
      (∃ t, exec .clear preset0 = .next t) := ⟨⟨_, rfl⟩, ⟨_, rfl⟩, ⟨_, rfl⟩, ⟨_, rfl⟩, ⟨_, rfl⟩⟩
theorem test_hyps_CombinerFrame :
    (∃ t, exec .captureA preset0 = .next t) ∧ (∃ t, exec .captureB preset0 = .next t) ∧
      (∃ t, exec .combine preset0 = .next t) := ⟨⟨_, rfl⟩, ⟨_, rfl⟩, ⟨_, rfl⟩⟩
theorem test_hyps_BuilderFrame :
    (∃ t, exec .config preset0 = .next t) ∧ (∃ t, exec (.loadPreset 1#8) preset0 = .next t) := ⟨⟨_, rfl⟩, ⟨_, rfl⟩⟩
/-- An UPDATE in flight and a host write of DIN. -/
theorem test_hyps_OperandsAreLatched :
    ∃ f t u, (flying 0x03#8 8#8 1 preset0).inflight = some f ∧ f.command = some (.update 8#8) ∧ RegName.din ≠ .cmd ∧
      f.op = 0x03#8 ∧ exec (.update 8#8) (flying 0x03#8 8#8 1 preset0) = .next t ∧
      exec (.update 8#8) ((flying 0x03#8 8#8 1 preset0).writeReg .din 5#64) = .next u :=
  ⟨_, _, _, rfl, by decide, by decide, rfl, rfl, rfl⟩
theorem test_hyps_OperandsAreLatched_config :
    ∃ f t u, (flying 0x01#8 0#8 1 preset0).inflight = some f ∧ f.command = some .config ∧ RegName.poly ≠ .cmd ∧
      f.op = 0x01#8 ∧ exec .config (flying 0x01#8 0#8 1 preset0) = .next t ∧
      exec .config ((flying 0x01#8 0#8 1 preset0).writeReg .poly 5#64) = .next u :=
  ⟨_, _, _, rfl, by decide, by decide, rfl, rfl, rfl⟩
theorem test_hyps_OperandsAreLatched_combine :
    ∃ f t u, (flying 0x06#8 0#8 1 preset0).inflight = some f ∧ f.command = some .combine ∧ RegName.cmbLen ≠ .cmd ∧
      f.op = 0x06#8 ∧ exec .combine (flying 0x06#8 0#8 1 preset0) = .next t ∧
      exec .combine ((flying 0x06#8 0#8 1 preset0).writeReg .cmbLen 5#64) = .next u :=
  ⟨_, _, _, rfl, by decide, by decide, rfl, rfl, rfl⟩
/-- The invariant holds of a configured engine with an UPDATE due, and its step answers. -/
theorem test_hyps_StepKeepsInvariant :
    Inv (flying 0x03#8 8#8 1 preset0) ∧ ∃ t, step (flying 0x03#8 8#8 1 preset0) = .next t :=
  ⟨{ err := ⟨by decide, by decide⟩
     ready := fun _ => ⟨test_hyps_ActLegal.1, rfl, by decide +kernel, by decide⟩
     inflight := fun _ h => by cases h; exact ⟨by decide, by decide, by decide⟩
     config := fun _ h => by cases h; decide },
    ⟨_, (step_of_due (i := .update 8#8) (fun _ _ h => by cases h) rfl (by decide)).trans rfl⟩⟩
/-- For WritersOfEngineState: a due CONFIG sets READY. -/
theorem test_hyps_WritersOfEngineState :
    (∀ req rest, (flying 0x01#8 0#8 1 preset0).todo ≠ .rstLow req :: rest) ∧
      ∃ t, step (flying 0x01#8 0#8 1 preset0) = .next t :=
  ⟨nofun, ⟨_, (step_of_due (i := .config) (fun _ _ h => by cases h) rfl (by decide)).trans rfl⟩⟩
/-- For the clause on what clears READY: the word of CONFIG written to CMD on an idle machine, and a due SELFTEST that
fails. -/
theorem test_hyps_WritersOfEngineState_clear :
    (∀ f, (doing [.request 0xB018#16 0x1#64] preset0).inflight = some f → f.op = 0x01#8 →
        (doing [.request 0xB018#16 0x1#64] preset0).status.ready = false) ∧
      got (fun t => (preset0.status.ready, t.status.ready)) (step (doing [.request 0xB018#16 0x1#64] preset0))
        = some (true, false) ∧
      got (fun t => (wrongCheck.status.ready, t.status.ready)) (step (flying 0x07#8 0#8 1 wrongCheck))
        = some (true, false) := ⟨nofun, by decide +kernel, by decide +kernel⟩
/-- For StickyFlags: a CLEAR written to CMD clears DONE. -/
theorem test_hyps_StickyFlags :
    (∀ req rest, (doing [.request 0xB018#16 0x9#64] preset0).todo ≠ .rstLow req :: rest) ∧
      got (fun t => (preset0.status.done, t.status.done)) (step (doing [.request 0xB018#16 0x9#64] preset0))
        = some (true, false) ∧
      (flying 0x03#8 8#8 1 preset0).due ≠ none := ⟨nofun, by decide +kernel, by decide⟩
/-- For RevReversesBits: the least and the greatest width, with a value that fits. -/
theorem test_hyps_RevReversesBits :
    (1 ≤ 1 ∧ 1 ≤ 64 ∧ 0 < 1 ∧ Fits 1 1#64) ∧ (1 ≤ 64 ∧ 64 ≤ 64 ∧ 63 < 64 ∧ Fits 64 (BitVec.allOnes 64)) := by decide
theorem test_hyps_CombineIsConcatenation : ActLegal preset0.act ∧ checkString.length < 2 ^ 64 :=
  ⟨test_hyps_ActLegal.1, by decide⟩
theorem test_hyps_StreamProperties :
    preset0.status.ready = true ∧ preset0.inflight = none ∧ (8#8).toNat ≤ 8 ∧
      (∃ t u, exec (.update 8#8) preset0 = .next t ∧ exec (.update 0#8) { t with din := 5#64 } = .next u) ∧
      (∃ t u, exec .reset preset0 = .next t ∧ exec .reset t = .next u) :=
  ⟨rfl, rfl, by decide, ⟨_, _, rfl, rfl⟩, ⟨_, _, rfl, rfl⟩⟩
theorem test_hyps_CheckStringGivesCheck :
    preset0.inflight = none ∧ ∃ t, exec .config preset0 = .next t ∧ t.status.ready = true ∧
      ∃ u, exec (.update 8#8) { t with din := 0x3837363534333231#64 } = .next u ∧
        ∃ v, exec (.update 1#8) { u with din := 0x39#64 } = .next v := by
  refine ⟨rfl, _, rfl, ?_, _, rfl, _, rfl⟩
  decide +kernel
theorem test_hyps_EqualSpecsGiveEqualTables :
    Carried 0x01#8 0#8 preset0.snapshot preset0 ∧ Carried 0x01#8 0#8 preset0.snapshot (flying 0x01#8 0#8 1 preset0) ∧
      widthLegal preset0.snapshot.spec.ctrl.width = true ∧ (∃ t, exec .config preset0 = .next t) ∧
      (∃ t, exec .config (flying 0x01#8 0#8 1 preset0) = .next t) :=
  ⟨.inl ⟨rfl, rfl⟩, .inr ⟨_, rfl, rfl, rfl, rfl⟩, rfl, ⟨_, rfl⟩, ⟨_, rfl⟩⟩
theorem test_hyps_HostStatementsRun :
    encode (.update 8#8) = .command 0x803#64 ∧ WellFormed (.update 8#8) ∧
      encode (.update 9#8) = .command 0x903#64 ∧ ¬ WellFormed (.update 9#8) ∧
      (doing [.expect RegName.digest.offset 0#64] preset0).due = none ∧
      (doing [.expect RegName.digest.offset 0#64] preset0).todo = .expect RegName.digest.offset 0#64 :: [] ∧
      (doing [.expect RegName.digest.offset 0#64] preset0).tick.readUnspecified .digest = false ∧
      (doing [.wait] (flying 0x03#8 8#8 2 preset0)).due = none ∧
      (doing [.wait] (flying 0x03#8 8#8 2 preset0)).todo = .wait :: [] ∧ (8#8).toNat ≤ 8 ∧ (1#8).toNat ≤ 1 ∧
      assemble .skip = some [] ∧ assemble .wait = some [.wait] :=
  ⟨by decide, by decide, by decide, by decide, rfl, rfl, rfl, rfl, rfl, by decide, by decide, rfl, rfl⟩
end Sys2Proof.Tests
end

section
/-! PROOFS, family 00_scope.md: bit reversal of W bits (R12), and `fin` and `unfin` on W-bit values (R18). -/

namespace Sys2Proof.Machine

/-- Bit i of `rev_W(v)`, the zeros from W up included (00_scope.md R12). -/
theorem getLsbD_rev {w : Nat} (hw : w ≤ 64) (v : Word) (i : Nat) :
    (rev w v).getLsbD i = (decide (i < w) && v.getLsbD (w - 1 - i)) := by
  simp only [rev, BitVec.getLsbD_ushiftRight, BitVec.getLsbD_reverse, BitVec.getMsbD_eq_getLsbD]
  have hindex : 64 - 1 - (64 - w + i) = w - 1 - i := by omega
  have hbelow : 64 - w + i < 64 ↔ i < w := by omega
  rw [hindex, decide_eq_decide.mpr hbelow]

theorem fits_rev {w : Nat} (hw : w ≤ 64) (v : Word) : Fits w (rev w v) := by
  rw [fits_iff hw]
  intro i hi
  simp [getLsbD_rev hw, Nat.not_lt.mpr hi]

/-- Position i of W bits comes back under `i ↦ W-1-i`; from W up the value must be 0 already. -/
theorem rev_rev {w : Nat} (hw : w ≤ 64) {v : Word} (hv : Fits w v) : rev w (rev w v) = v := by
  refine BitVec.eq_of_getLsbD_eq fun i _ => ?_
  rw [getLsbD_rev hw, getLsbD_rev hw]
  by_cases hi : i < w
  · have hback : w - 1 - (w - 1 - i) = i := by omega
    have hmirror : w - 1 - i < w := by omega
    simp [hi, hback, hmirror]
  · simp [hi, (fits_iff hw v).mp hv i (Nat.le_of_not_lt hi)]

/-- Settles O50: bit by bit, from `getLsbD_rev`. -/
theorem revReversesBits : Obligations.RevReversesBits := by
  intro w v _ hw
  refine ⟨fun i hi => ?_, fits_rev hw v, rev_rev hw⟩
  simp [getLsbD_rev hw, hi]

theorem ActLegal.w_le {a : Act} (ha : ActLegal a) : a.w ≤ 64 := by
  rcases ha.width with h | h <;> omega

/-- The reversal that `fin` and `unfin` share: `rev_W` under REFOUT = 1, else nothing (00_scope.md R18). -/
def reflectOut (a : Act) (r : Word) : Word := if a.ctrl.refout then rev a.w r else r

theorem fin_eq (a : Act) (r : Word) : fin a r = reflectOut a r ^^^ a.xorout := rfl

theorem unfin_eq (a : Act) (f : Word) : unfin a f = reflectOut a (f ^^^ a.xorout) := rfl

theorem fits_reflectOut {a : Act} (ha : ActLegal a) {r : Word} (hr : Fits a.w r) : Fits a.w (reflectOut a r) := by
  unfold reflectOut
  split
  · exact fits_rev ha.w_le r
  · exact hr

theorem reflectOut_reflectOut {a : Act} (ha : ActLegal a) {r : Word} (hr : Fits a.w r) :
    reflectOut a (reflectOut a r) = r := by
  unfold reflectOut
  split
  · exact rev_rev ha.w_le hr
  · rfl

/-- Twice XOROUT is nothing. -/
theorem xorout_xorout (a : Act) (r : Word) : r ^^^ a.xorout ^^^ a.xorout = r := by
  rw [BitVec.xor_assoc, BitVec.xor_self, BitVec.xor_zero]

theorem fits_fin {a : Act} (ha : ActLegal a) {r : Word} (hr : Fits a.w r) : Fits a.w (fin a r) :=
  fits_xor (fits_reflectOut ha hr) ha.xorout

theorem fits_unfin {a : Act} (ha : ActLegal a) {f : Word} (hf : Fits a.w f) : Fits a.w (unfin a f) :=
  fits_reflectOut ha (fits_xor hf ha.xorout)

theorem unfin_fin {a : Act} (ha : ActLegal a) {r : Word} (hr : Fits a.w r) : unfin a (fin a r) = r := by
  rw [unfin_eq, fin_eq, xorout_xorout, reflectOut_reflectOut ha hr]

theorem fin_unfin {a : Act} (ha : ActLegal a) {f : Word} (hf : Fits a.w f) : fin a (unfin a f) = f := by
  rw [fin_eq, unfin_eq, reflectOut_reflectOut ha (fits_xor hf ha.xorout), xorout_xorout]

/-- Settles O51: `fin` and `unfin` are the reversal and XOROUT, each its own inverse, in opposite orders. -/
theorem unfinInvertsFin : Obligations.UnfinInvertsFin := by
  intro a r ha hr
  exact ⟨unfin_fin ha hr, fin_unfin ha hr, fits_fin ha hr, fits_unfin ha hr⟩

end Sys2Proof.Machine
end

section
/-! PROOFS, family 10_state.md: the values after hardware reset (R62), the layout of STATUS (R25, R26), who writes each piece
of engine state (R27 to R29, R42, R47, R48, R56, R57), and the invariant (R63). -/

namespace Sys2Proof.Machine

/-- Settles O11: register by register of the map. -/
theorem resetStateValues : Obligations.ResetStateValues := by
  refine ⟨rfl, fun r hr => ?_, rfl, rfl, rfl, rfl⟩
  cases r
  case id => exact absurd rfl hr
  all_goals rfl

/-- Bit i of a field of `w` bits placed at bit k of a register. -/
theorem getLsbD_field {w : Nat} (x : BitVec w) {k : Nat} (hk : k + w ≤ 64) (i : Nat) :
    (x.setWidth 64 <<< k).getLsbD i = (decide (k ≤ i) && x.getLsbD (i - k)) := by
  by_cases hx : i - k < w
  · by_cases hki : k ≤ i
    · simp [hki, show i < 64 by omega]
    · simp [hki, show i < k by omega]
  · simp [BitVec.getLsbD_of_ge x (i - k) (by omega)]

/-- Bit i of a register with the flag `b` at bit k alone. -/
theorem getLsbD_flag (b : Bool) {k : Nat} (hk : k < 64) (i : Nat) :
    ((BitVec.ofBool b).setWidth 64 <<< k).getLsbD i = (decide (i = k) && b) := by
  rw [getLsbD_field _ hk, BitVec.getLsbD_ofBool, ← Bool.and_assoc, ← Bool.decide_and]
  have here : k ≤ i ∧ i - k = 0 ↔ i = k := by omega
  rw [decide_eq_decide.mpr here]

/-- Bit i of STATUS, field by field of its layout (10_state.md R25). -/
theorem getLsbD_statusWord (s : State) (i : Nat) : s.statusWord.getLsbD i =
    ((decide (16 ≤ i) && s.status.errOp.getLsbD (i - 16)) || (decide (8 ≤ i) && s.status.errCode.bits.getLsbD (i - 8)) ||
      (decide (i = 4) && s.irq) || (decide (i = 3) && s.status.err) || (decide (i = 2) && s.status.done) ||
      (decide (i = 1) && s.status.ready) || (decide (i = 0) && s.busy)) := by
  have busy : ((BitVec.ofBool s.busy).setWidth 64).getLsbD i = (decide (i = 0) && s.busy) := by
    rw [← getLsbD_flag s.busy (by decide), BitVec.shiftLeft_zero]
  simp only [State.statusWord, BitVec.getLsbD_or, getLsbD_field s.status.errOp (k := 16) (by decide),
    getLsbD_field s.status.errCode.bits (k := 8) (by decide), getLsbD_flag _ (k := 4) (by decide),
    getLsbD_flag _ (k := 3) (by decide), getLsbD_flag _ (k := 2) (by decide), getLsbD_flag _ (k := 1) (by decide), busy]

/-- Above the flags, STATUS holds ERR_OP and ERRCODE alone. -/
theorem getLsbD_statusWord_of_ge (s : State) {i : Nat} (hi : 5 ≤ i) : s.statusWord.getLsbD i =
    ((decide (16 ≤ i) && s.status.errOp.getLsbD (i - 16)) ||
      (decide (8 ≤ i) && s.status.errCode.bits.getLsbD (i - 8))) := by
  rw [getLsbD_statusWord]
  simp [show i ≠ 4 by omega, show i ≠ 3 by omega, show i ≠ 2 by omega, show i ≠ 1 by omega, show i ≠ 0 by omega]

/-- A field of STATUS above the flags, from its bits. -/
theorem extractLsb'_statusWord (s : State) {k n : Nat} (hk : 5 ≤ k) {x : BitVec n}
    (h : ∀ j, j < n → ((decide (16 ≤ k + j) && s.status.errOp.getLsbD (k + j - 16)) ||
      (decide (8 ≤ k + j) && s.status.errCode.bits.getLsbD (k + j - 8))) = x.getLsbD j) :
    s.statusWord.extractLsb' k n = x := by
  refine BitVec.eq_of_getLsbD_eq fun j hj => ?_
  rw [BitVec.getLsbD_extractLsb', decide_eq_true hj, Bool.true_and, getLsbD_statusWord_of_ge s (by omega), h j hj]

theorem errCode_bits_le (e : ErrCode) : e.bits.toNat ≤ 7 := by cases e <;> decide

/-- Settles O29: the flags bit by bit, the wider fields from the bits above the flags. -/
theorem statusLayout : Obligations.StatusLayout := by
  intro s
  have busy : s.statusWord.getLsbD 0 = s.inflight.isSome := by rw [getLsbD_statusWord]; simp [State.busy]
  have ready : s.statusWord.getLsbD 1 = s.status.ready := by rw [getLsbD_statusWord]; simp
  have done : s.statusWord.getLsbD 2 = s.status.done := by rw [getLsbD_statusWord]; simp
  have err : s.statusWord.getLsbD 3 = s.status.err := by rw [getLsbD_statusWord]; simp
  have irq : s.statusWord.getLsbD 4 = s.irq := by rw [getLsbD_statusWord]; simp
  refine ⟨?_, ready, done, err, ?_, irq.symm, ?_, ?_, ?_, ?_, ?_, rfl, rfl, rfl, rfl, rfl, rfl, rfl, rfl,
    errCode_bits_le _⟩
  · rw [busy, Option.isSome_iff_ne_none]
  · rw [irq, State.irq, Bool.or_eq_true, Bool.and_eq_true, Bool.and_eq_true]
  all_goals refine extractLsb'_statusWord s (by decide) fun j hj => ?_
  · simp [show ¬ 16 ≤ 5 + j by omega, show ¬ 8 ≤ 5 + j by omega]
  · simp [show ¬ 16 ≤ 8 + j by omega]
  · simp [show ¬ 16 ≤ 12 + j by omega, BitVec.getLsbD_of_ge s.status.errCode.bits (12 + j - 8) (by omega)]
  · simp [BitVec.getLsbD_of_ge s.status.errCode.bits (16 + j - 8) (by omega)]
  · simp [BitVec.getLsbD_of_ge s.status.errCode.bits (24 + j - 8) (by omega),
      BitVec.getLsbD_of_ge s.status.errOp (24 + j - 16) (by omega)]

/-! What a step can do to CRCE. -/

/-- What a command does at its completion on the operands `snap`, as its arm of exec has it; nothing for what never
issues. -/
def completion : Instr → Snap → State → State
  | .nop, _ => State.finish
  | .config, snap => configCompletes snap
  | .reset, _ => State.ifReady 0x02#8 resetRuns
  | .update nbytes, snap => updateCompletes nbytes snap
  | .captureA, _ => State.ifReady 0x04#8 captureARuns
  | .captureB, _ => State.ifReady 0x05#8 captureBRuns
  | .combine, snap => State.ifReady 0x06#8 (combineRuns snap)
  | .selftest, _ => State.ifReady 0x07#8 selftestRuns
  | .loadPreset preset, _ => loadPresetCompletes preset
  | .clear, _ | .rd _, _ | .wr _ _, _ => id

/-- exec of a command that is carried is its completion on those operands. -/
theorem exec_of_carried {i : Instr} {op arg : Byte} {snap : Snap} {s : State} (hi : opArg i = some (op, arg))
    (issues : i.issues = true) (h : Carried op arg snap s) : exec i s = .next (completion i snap s) := by
  cases i
  case clear | rd | wr => cases issues
  all_goals
    cases hi
    exact congrArg Host.Outcome.next (carryOut_of_carried h _)

/-- The states the completion of a command in `s` can answer: an error with nothing else changed, new values in the
registers the host writes too, or what COMBINE, RESET, UPDATE, SELFTEST and CONFIG do to the engine. -/
inductive Completes (s : State) : Instr → State → Prop
  | raised (i : Instr) (e : ErrCode) (op : Byte) (he : e ≠ .none) : Completes s i (s.raise e op)
  | operands (i : Instr) (sp : Spec) (a b n : Word) (ta tb : Byte) :
    Completes s i (State.finish { s with staging := sp, cmbA := a, cmbB := b, cmbLen := n, tagA := ta, tagB := tb })
  | combined (v : Word) : Completes s .combine (State.finish { s with cmbResult := v })
  | reset : Completes s .reset (State.finish { s with reg := s.act.init, count := 0#64 })
  | updated (nbytes : Byte) (bytes : List Byte) (count : Word) : Completes s (.update nbytes)
      (State.finish { s with reg := runBytes s.act s.table s.reg bytes, count := count })
  | selftestFailed :
    Completes s .selftest (State.raise .cfgSelftest 0x07#8 { s with status := { s.status with ready := false } })
  | configFailed (act : Act) (table : Vector Word 256) (e : ErrCode) (he : e ≠ .none) :
    Completes s .config (State.raise e 0x01#8 { s.configStart with act := act, table := table })
  | configured (sp : Spec) (width : widthLegal sp.ctrl.width = true)
      (selftest : selftestDigest (Act.latch sp) (buildTable (Act.latch sp)) = (Act.latch sp).check) :
    Completes s .config (s.configBuilt sp).engineInit.finish

/-- A command behind the READY gate raises NOT_READY or runs. -/
theorem Completes.ifReady {i : Instr} {op : Byte} {g : State → State} {s : State} (h : Completes s i (g s)) :
    Completes s i (s.ifReady op g) := by
  obtain ⟨_, hg⟩ | ⟨_, hg⟩ := ifReady_cases op g s <;> rw [hg]
  · exact h
  · exact .raised i _ op nofun

theorem completes_config (snap : Snap) (s : State) : Completes s .config (configCompletes snap s) := by
  unfold configCompletes
  split
  · rename_i width
    dsimp only
    split
    · rename_i selftest; exact .configured _ width selftest
    · exact .configFailed _ _ _ nofun
  · exact .configFailed _ s.table _ nofun

theorem completes_selftest (s : State) : Completes s .selftest (selftestRuns s) := by
  unfold selftestRuns
  split
  · exact .operands _ _ _ _ _ _ _
  · exact .selftestFailed

theorem completes_combine (snap : Snap) (s : State) : Completes s .combine (combineRuns snap s) := by
  unfold combineRuns
  split
  · exact .combined _
  · exact .raised _ _ _ nofun

theorem completes_update (nbytes : Byte) (snap : Snap) (s : State) :
    Completes s (.update nbytes) (updateCompletes nbytes snap s) := by
  unfold updateCompletes
  split
  · exact .raised _ _ _ nofun
  · exact .ifReady (.updated nbytes _ _)

theorem completes_loadPreset (preset : Byte) (s : State) :
    Completes s (.loadPreset preset) (loadPresetCompletes preset s) := by
  unfold loadPresetCompletes
  split
  · exact .raised _ _ _ nofun
  · exact .operands _ _ _ _ _ _ _

/-- Everything the completion of a command that issues can do. -/
theorem completes_completion {i : Instr} (issues : i.issues = true) (snap : Snap) (s : State) :
    Completes s i (completion i snap s) := by
  cases i with
  | nop => exact .operands .nop _ _ _ _ _ _
  | config => exact completes_config snap s
  | reset => exact .ifReady .reset
  | update nbytes => exact completes_update nbytes snap s
  | captureA => exact .ifReady (.operands .captureA _ _ _ _ _ _)
  | captureB => exact .ifReady (.operands .captureB _ _ _ _ _ _)
  | combine => exact .ifReady (completes_combine snap s)
  | selftest => exact .ifReady (completes_selftest s)
  | loadPreset preset => exact completes_loadPreset preset s
  | clear => cases issues
  | rd | wr => cases issues

/-- `t` is `s` but for the host's side of the port and the counter of free values. -/
def HostSideOnly (s t : State) : Prop :=
  ∃ l rs failed k, t = { s with todo := l, responses := rs, hostFailed := failed, free := k }

/-- A descriptor, put together again from its fields (30_encoding.md R101). -/
theorem desc_of_fields (d : BitVec 16) : d =
    ((BitVec.ofBool (descWrite d)).setWidth 16 <<< 15) ||| ((descSize d).setWidth 16 <<< 12) |||
      (descAddr d).setWidth 16 := by
  refine BitVec.eq_of_getLsbD_eq fun i hi => ?_
  simp only [descWrite, descSize, descAddr, BitVec.getLsbD_or, BitVec.getLsbD_shiftLeft, BitVec.getLsbD_setWidth,
    BitVec.getLsbD_extractLsb', BitVec.getLsbD_ofBool]
  interval_cases i <;> simp

/-- A bus access that decodes is a read, or the write of its own descriptor and data (30_encoding.md R101, R102). -/
theorem access_of_decodeBus {d : BitVec 16} {x : Word} {i : Instr} (h : decodeBus d x = .ok i) :
    i = .rd (descAddr d) ∨ i = .wr (descAddr d) x ∧ d = busDesc true (descAddr d) := by
  unfold decodeBus at h
  split at h
  · rename_i legal
    split at h <;> cases h
    · rename_i write
      refine .inr ⟨rfl, (desc_of_fields d).trans ?_⟩
      rw [legal.1, write]
      rfl
    · exact .inl rfl
  · cases h

theorem HostSideOnly.of_rd {addr : BitVec 12} {l : List HostStmt} {s t : State}
    (h : exec (.rd addr) (s.setTodo l) = .next t) : HostSideOnly s t := by
  obtain ⟨a, k, rfl⟩ := execRd_eq h
  exact ⟨_, _, _, _, rfl⟩

theorem HostSideOnly.expects {s t : State} (val : Word) (h : HostSideOnly s t) : HostSideOnly s (hostExpects val t) := by
  obtain ⟨l, rs, failed, k, rfl⟩ := h
  unfold hostExpects
  split <;> exact ⟨_, _, _, _, rfl⟩

/-- The host's part of a cycle: it changes nothing of CRCE, or it is the request of a write of a register, answered. -/
def HostMoves (s t : State) : Prop :=
  HostSideOnly s t ∨ ∃ r v l, s.todo = .request (busDesc true r.offset) v :: l ∧
    t = ((s.setTodo l).writeReg r v).respond .written

theorem hostMoves_of_hostStep {s t : State} (h : hostStep s = .next t) : HostMoves s t := by
  obtain ⟨l, rfl⟩ | ⟨l, addr, hrd⟩ | ⟨l, d, x, i, htodo, hd, hexec⟩ | ⟨l, rfl⟩ | ⟨l, addr, val, u, hrd, rfl⟩ :=
    hostStep_cases h
  · exact .inl ⟨_, _, _, _, rfl⟩
  · exact .inl (.of_rd hrd)
  · obtain rfl | ⟨rfl, hdesc⟩ := access_of_decodeBus hd
    · exact .inl (.of_rd hexec)
    · obtain ⟨r, hr, rfl⟩ | ⟨a, rfl⟩ := execWr_cases hexec
      · exact .inr ⟨r, x, l, by rw [offset_of_regAt hr, ← hdesc, htodo], rfl⟩
      · exact .inl ⟨_, _, _, _, rfl⟩
  · exact .inl ⟨_, _, _, _, rfl⟩
  · exact .inl ((HostSideOnly.of_rd hrd).expects val)

/-- Everything a step can do to CRCE: a hardware reset, the completion of the command in flight, or a cycle of `clk` in
which the host writes a register or leaves CRCE alone. -/
theorem step_moves {s t : State} (h : step s = .next t) :
    (∃ req rest, s.todo = .rstLow req :: rest ∧ t = resetCycle req rest s) ∨
    (∃ f i, s.due = some f ∧ opArg i = some (f.op, f.arg) ∧ Completes s i t) ∨
    (s.due = none ∧ HostMoves s.tick t) := by
  obtain hreset | ⟨f, i, hdue, hcmd, hexec⟩ | ⟨hdue, hhost⟩ := step_cases h
  · exact .inl hreset
  · obtain ⟨hop, _, issues⟩ := opArg_of_command hcmd
    have carried : Carried f.op f.arg f.snap s := .inr ⟨f, (due_eq_some.mp hdue).1, rfl, rfl, rfl⟩
    rw [exec_of_carried hop issues carried] at hexec
    cases hexec
    exact .inr (.inl ⟨f, i, hdue, hop, completes_completion issues _ s⟩)
  · exact .inr (.inr ⟨hdue, hostMoves_of_hostStep hhost⟩)

/-! Who writes the flags and the engine. -/

/-- How the flags of STATUS move but for CLEAR and reset: DONE is never cleared, and the error record stays or records an
error (10_state.md R28, R29; 60_exceptions.md R255). READY is free. -/
inductive FlagsMove (st : Status) : Status → Prop
  | keep (ready done : Bool) (hdone : st.done = true → done = true) :
    FlagsMove st { st with ready := ready, done := done }
  | record (e : ErrCode) (op : Byte) (he : e ≠ .none) (ready done : Bool) (hdone : st.done = true → done = true) :
    FlagsMove st { st.record e op with ready := ready, done := done }

namespace FlagsMove

variable {st st' : Status}

theorem refl (st : Status) : FlagsMove st st := .keep st.ready st.done id

theorem recorded {e : ErrCode} (he : e ≠ .none) (op : Byte) (st : Status) : FlagsMove st (st.record e op) :=
  .record e op he _ _ (record_done e op st).trans

theorem done_of_done (h : FlagsMove st st') : st.done = true → st'.done = true := by
  cases h <;> assumption

theorem err_of_err (h : FlagsMove st st') (herr : st.err = true) : st'.err = true := by
  cases h with
  | keep => exact herr
  | record e op => exact record_err e op st

end FlagsMove

/-- Recording an error keeps the error record consistent (60_exceptions.md R255). -/
theorem errConsistent_record {st : Status} (h : ErrConsistent st) {e : ErrCode} (he : e ≠ .none) (op : Byte) :
    ErrConsistent (st.record e op) := by
  unfold Status.record
  split
  · exact h
  · exact ⟨⟨nofun, fun hc => absurd hc he⟩, fun hc => absurd hc he⟩

theorem FlagsMove.errConsistent {st st' : Status} (h : FlagsMove st st') (hst : ErrConsistent st) :
    ErrConsistent st' := by
  cases h with
  | keep => exact ⟨hst.err_iff, hst.op_zero⟩
  | record e op he =>
    have hrec := errConsistent_record hst he op
    exact ⟨hrec.err_iff, hrec.op_zero⟩

section completes

variable {s t : State} {i : Instr}

/-- A completion sets DONE, and nothing is in flight after it (60_exceptions.md R255). -/
theorem Completes.done (h : Completes s i t) : t.status.done = true ∧ t.inflight = none := by
  cases h <;> exact ⟨rfl, rfl⟩

theorem Completes.flags (h : Completes s i t) : FlagsMove s.status t.status := by
  cases h with
  | raised _ e op he => exact .record e op he _ true fun _ => rfl
  | operands | combined | reset | updated | configured => exact .keep _ true fun _ => rfl
  | selftestFailed =>
    rw [State.raise_status, record_setReady]
    exact .record .cfgSelftest 0x07#8 nofun false true fun _ => rfl
  | configFailed act table e he =>
    rw [State.raise_status, State.configStart_status, record_setReady]
    exact .record e 0x01#8 he false true fun _ => rfl

/-- REG and COUNT are written by CONFIG, RESET and UPDATE alone (10_state.md R42, R56). -/
theorem Completes.engine (h : Completes s i t) :
    SameEngine s t ∨ i = .config ∨ i = .reset ∨ ∃ nbytes, i = .update nbytes := by
  cases h with
  | raised | operands | combined | selftestFailed => exact .inl ⟨rfl, rfl⟩
  | configFailed | configured => exact .inr (.inl rfl)
  | reset => exact .inr (.inr (.inl rfl))
  | updated => exact .inr (.inr (.inr ⟨_, rfl⟩))

/-- ACT and TABLE are written by CONFIG alone (10_state.md R48, R57). -/
theorem Completes.active (h : Completes s i t) : SameActive s t ∨ i = .config := by
  cases h with
  | configFailed | configured => exact .inr rfl
  | raised | operands | combined | reset | updated | selftestFailed => exact .inl ⟨rfl, rfl⟩

/-- CMB_RESULT is written by COMBINE alone (10_state.md R47). -/
theorem Completes.result (h : Completes s i t) : SameResult s t ∨ i = .combine := by
  cases h with
  | combined => exact .inr rfl
  | raised | operands | reset | updated | selftestFailed | configFailed | configured => exact .inl ⟨rfl⟩

/-- READY is written by CONFIG, and cleared by SELFTEST (10_state.md R27). -/
theorem Completes.ready (h : Completes s i t) :
    t.status.ready = s.status.ready ∨ i = .config ∨ (i = .selftest ∧ t.status.ready = false) := by
  cases h with
  | raised _ e op => exact .inl (record_ready e op s.status)
  | operands | combined | reset | updated => exact .inl rfl
  | selftestFailed => exact .inr (.inr ⟨rfl, record_ready _ _ _⟩)
  | configFailed | configured => exact .inr (.inl rfl)

end completes

/-- Only the word of CONFIG decodes with OPCODE 0x01 (30_encoding.md R108). -/
theorem configWord_of_opcode {v : Word} {i : Instr} (h : decodeCmd v = .ok i) (hop : opcodeOf v = 0x01#8) :
    v = 0x1#64 := by
  have hv := commandWord_of_decodeCmd_ok h
  obtain ⟨fields, _⟩ := opArg_of_decodeCmd (hv ▸ h)
  rw [hop] at fields
  have harg : argOf v = 0#8 := by cases i <;> simp_all [opArg]
  rw [← hv, hop, harg]
  rfl

/-- Only the word of CLEAR decodes to a command that does not issue (10_state.md R26). -/
theorem clearWord_of_not_issues {v : Word} {i : Instr} (h : decodeCmd v = .ok i) (hi : i.issues = false) :
    v = 0x9#64 := by
  have hv := commandWord_of_decodeCmd_ok h
  obtain ⟨fields, _⟩ := opArg_of_decodeCmd (hv ▸ h)
  cases i with
  | clear =>
    obtain ⟨hop, harg⟩ := Prod.mk.inj (Option.some.inj fields)
    rw [← hv, ← hop, ← harg]
    rfl
  | rd | wr => cases fields
  | nop | config | reset | update | captureA | captureB | combine | selftest | loadPreset => cases hi

/-- A word written to CMD moves the flags, or it is a CLEAR performed on an idle machine (43_host_access.md R222, R224). -/
theorem present_flags (v : Word) (s : State) :
    FlagsMove s.status (s.present v).status ∨ (s.busy = false ∧ v = 0x9#64 ∧ s.present v = s.clearSticky) := by
  unfold State.present
  cases hb : s.busy with
  | true => exact .inl (.recorded (e := .busyViolation) nofun (opcodeOf v) _)
  | false =>
    cases hd : decodeCmd v with
    | illegalCmd op => exact .inl (.record .illegalCmd op nofun _ true fun _ => rfl)
    | badArg op => exact .inl (.record .badArg op nofun _ true fun _ => rfl)
    | illegalAccess => exact .inl (.refl _)
    | ok i =>
      cases hi : i.issues with
      | true => exact .inl (by simpa [hi] using .keep _ _ id)
      | false => exact .inr ⟨rfl, clearWord_of_not_issues hd hi, by simp [hi]⟩

/-- A word written to CMD leaves READY, or it is a CONFIG issued on an idle machine (40_table_builder.md R135). -/
theorem present_ready (v : Word) (s : State) : (s.present v).status.ready = s.status.ready ∨
    (s.busy = false ∧ v = 0x1#64 ∧ (s.present v).status.ready = false) := by
  obtain ⟨_, hp⟩ | ⟨_, e, op, hp⟩ | ⟨hb, i, hd, _, hp⟩ | ⟨_, i, _, _, hp⟩ := present_cases v s <;> rw [hp]
  · exact .inl (record_ready _ _ _)
  · exact .inl (record_ready _ _ _)
  · by_cases hop : opcodeOf v = 0x01#8
    · exact .inr ⟨hb, configWord_of_opcode hd hop, by simp [hop]⟩
    · exact .inl (by simp [hop])
  · exact .inl rfl

/-- A bus write moves the flags, or it is a CLEAR performed on an idle machine. -/
theorem writeReg_flags (r : RegName) (v : Word) (s : State) : FlagsMove s.status (s.writeReg r v).status ∨
    (r = .cmd ∧ s.busy = false ∧ v = 0x9#64 ∧ s.writeReg r v = s.clearSticky) := by
  unfold State.writeReg
  split
  · rename_i hr
    exact (present_flags v s).imp_right (.intro hr)
  · left
    rw [State.noteRace_status, State.storeReg_status]
    exact .refl _

/-- A bus write leaves READY, or it is a CONFIG issued on an idle machine. -/
theorem writeReg_ready (r : RegName) (v : Word) (s : State) : (s.writeReg r v).status.ready = s.status.ready ∨
    (r = .cmd ∧ s.busy = false ∧ v = 0x1#64 ∧ (s.writeReg r v).status.ready = false) := by
  unfold State.writeReg
  split
  · rename_i hr
    exact (present_ready v s).imp_right (.intro hr)
  · left
    rw [State.noteRace_status, State.storeReg_status]

/-- A bus write never sets READY (10_state.md R27). -/
theorem ready_of_writeReg_ready {r : RegName} {v : Word} {s : State} (h : (s.writeReg r v).status.ready = true) :
    s.status.ready = true := by
  obtain hsame | ⟨_, _, _, hcleared⟩ := writeReg_ready r v s
  · exact hsame ▸ h
  · rw [hcleared] at h; cases h

/-- Settles O36: a write of a register keeps the engine and never sets READY; any other answer leaves CRCE alone. -/
theorem writesLeaveTheEngine : Obligations.WritesLeaveTheEngine := by
  intro s t addr v h
  obtain ⟨r, _, rfl⟩ | ⟨a, rfl⟩ := execWr_cases h
  · exact ⟨⟨by simp, by simp⟩, ⟨by simp, by simp⟩, ⟨by simp⟩, by simp, by simp, ready_of_writeReg_ready,
      ⟨.written, by simp⟩⟩
  · exact ⟨⟨rfl, rfl⟩, ⟨rfl, rfl⟩, ⟨rfl⟩, rfl, rfl, id, ⟨a, rfl⟩⟩

/-- The request of a write to CMD (30_encoding.md R102). -/
theorem busDesc_cmd : busDesc true RegName.cmd.offset = 0xB018#16 := by decide

/-- What a cycle of `clk` with no completion due leaves of the engine, READY and the flags, whatever the host does in it. -/
theorem hostCycle_frame {s t : State} (h : HostMoves s.tick t) :
    SameEngine s t ∧ SameActive s t ∧ SameResult s t ∧
    (t.status.ready = s.status.ready ∨
      (s.busy = false ∧ (∃ l, s.todo = .request 0xB018#16 0x1#64 :: l) ∧ t.status.ready = false)) ∧
    (FlagsMove s.status t.status ∨ (s.busy = false ∧ ∃ l, s.todo = .request 0xB018#16 0x9#64 :: l)) := by
  obtain ⟨l, rs, failed, k, rfl⟩ | ⟨r, v, l, htodo, rfl⟩ := h
  · exact ⟨⟨by simp, by simp⟩, ⟨by simp, by simp⟩, ⟨by simp⟩, .inl (by simp), .inl (by simpa using .refl _)⟩
  · rw [State.tick_todo] at htodo
    refine ⟨⟨by simp, by simp⟩, ⟨by simp, by simp⟩, ⟨by simp⟩, ?_, ?_⟩
    · refine (writeReg_ready r v (s.tick.setTodo l)).imp (by simp) ?_
      rintro ⟨rfl, hb, rfl, hready⟩
      exact ⟨busy_tick s ▸ hb, ⟨l, busDesc_cmd ▸ htodo⟩, hready⟩
    · refine (writeReg_flags r v (s.tick.setTodo l)).imp (by simp) ?_
      rintro ⟨rfl, hb, rfl, _⟩
      exact ⟨busy_tick s ▸ hb, l, busDesc_cmd ▸ htodo⟩

/-- The command in flight has the OPCODE of the instruction it holds. -/
theorem op_eq_of_opArg {i : Instr} {op arg op' arg' : Byte} (h : opArg i = some (op, arg))
    (h' : opArg i = some (op', arg')) : op = op' :=
  (Prod.mk.inj (Option.some.inj (h.symm.trans h'))).1

/-- Settles O48: a completion by its command's frame, any other cycle by what the host can do in it. -/
theorem writersOfEngineState : Obligations.WritersOfEngineState := by
  intro s t h hrst completes
  obtain ⟨req, rest, htodo, _⟩ | ⟨f, i, hdue, hop, hc⟩ | ⟨hdue, hhost⟩ := step_moves h
  · exact absurd htodo (hrst req rest)
  · have done {op arg : Byte} {ops : List Byte} (hi : opArg i = some (op, arg)) (hmem : op ∈ ops) : completes ops :=
      ⟨f, hdue, op_eq_of_opArg hi hop ▸ hmem⟩
    refine ⟨fun hne => ?_, fun hne => ?_, fun hne => ?_, fun h0 h1 => ?_, fun hconfig h1 h0 => ?_⟩
    · obtain same | rfl | rfl | ⟨nbytes, rfl⟩ := hc.engine
      · exact absurd hne (by simp [same.reg, same.count])
      all_goals exact done rfl (by decide)
    · obtain same | rfl := hc.active
      · exact absurd hne (by simp [same.act, same.table])
      · exact done rfl (by decide)
    · obtain same | rfl := hc.result
      · exact absurd same.cmbResult hne
      · exact done rfl (by decide)
    · obtain same | rfl | ⟨_, hcleared⟩ := hc.ready
      · rw [same, h0] at h1; cases h1
      · exact done rfl (by decide)
      · rw [hcleared] at h1; cases h1
    · obtain same | rfl | ⟨rfl, _⟩ := hc.ready
      · rw [same, h1] at h0; cases h0
      · have := hconfig f (due_eq_some.mp hdue).1 (op_eq_of_opArg hop rfl)
        rw [h1] at this; cases this
      · exact .inl (done rfl (by decide))
  · obtain ⟨engine, active, result, ready, _⟩ := hostCycle_frame hhost
    refine ⟨fun hne => ?_, fun hne => ?_, fun hne => absurd result.cmbResult hne, fun h0 h1 => ?_, fun _ h1 h0 => ?_⟩
    · exact absurd hne (by simp [engine.reg, engine.count])
    · exact absurd hne (by simp [active.act, active.table])
    · obtain hsame | ⟨_, _, hcleared⟩ := ready
      · rw [hsame, h0] at h1; cases h1
      · rw [hcleared] at h1; cases h1
    · obtain hsame | ⟨hb, hword, _⟩ := ready
      · rw [hsame, h1] at h0; cases h0
      · exact .inr ⟨hdue, hb, hword⟩

/-- Settles O49: a completion sets DONE and moves the flags, any other cycle moves the flags or performs a CLEAR. -/
theorem stickyFlags : Obligations.StickyFlags := by
  have kept {st st' : Status} (h : FlagsMove st st') :
      ¬ (st.done = true ∧ st'.done = false ∨ st.err = true ∧ st'.err = false) := by
    rintro (⟨h1, h0⟩ | ⟨h1, h0⟩)
    · rw [h.done_of_done h1] at h0; cases h0
    · rw [h.err_of_err h1] at h0; cases h0
  intro s t h hrst
  obtain ⟨req, rest, htodo, _⟩ | ⟨f, i, hdue, hop, hc⟩ | ⟨hdue, hhost⟩ := step_moves h
  · exact absurd htodo (hrst req rest)
  · exact ⟨fun hcl => absurd hcl (kept hc.flags), fun _ => hc.done⟩
  · obtain ⟨_, _, _, _, flags⟩ := hostCycle_frame hhost
    refine ⟨fun hcl => ?_, fun hne => absurd hdue hne⟩
    obtain hmove | ⟨hb, hword⟩ := flags
    · exact absurd hcl (kept hmove)
    · exact ⟨hdue, hb, hword⟩

/-! The arithmetic keeps values below 2^W. -/

section fits

/-- A shift to the right keeps a value below 2^W. -/
theorem fits_ushiftRight {w : Nat} (hw : w ≤ 64) {v : Word} (hv : Fits w v) (n : Nat) : Fits w (v >>> n) := by
  rw [fits_iff hw] at hv ⊢
  intro i hi
  rw [BitVec.getLsbD_ushiftRight, hv (n + i) (by omega)]

/-- A byte is below 2^W where W is at least 8. -/
theorem fits_byte {w : Nat} (h8 : 8 ≤ w) (hw : w ≤ 64) (b : Byte) : Fits w (b.setWidth 64) := by
  rw [fits_iff hw]
  intro i hi
  rw [BitVec.getLsbD_setWidth, BitVec.getLsbD_of_ge b i (by omega), Bool.and_false]

variable {a : Act} (ha : ActLegal a)
include ha

theorem ActLegal.eight_le_w : 8 ≤ a.w := by rcases ha.width with h | h <;> omega

theorem fits_tblStart (b : Byte) : Fits a.w (tblStart a b) := by
  unfold tblStart
  split
  · exact fits_byte ha.eight_le_w ha.w_le b
  · exact fits_and_mask _ _

theorem fits_tblShift {c : Word} (hc : Fits a.w c) : Fits a.w (tblShift a c) := by
  have right := fits_ushiftRight ha.w_le hc 1
  have left := fits_and_mask a.w (c <<< 1)
  unfold tblShift
  split <;> split
  · exact fits_xor right ha.poly
  · exact right
  · exact fits_xor left ha.poly
  · exact left

theorem fits_tblEntry (b : Byte) : Fits a.w (tblEntry a b) :=
  Function.Iterate.rec (Fits a.w) (fits_tblStart ha b) (fun _ hc => fits_tblShift ha hc) 8

theorem fits_stepByte {r : Word} (hr : Fits a.w r) (b : Byte) : Fits a.w (stepByte a (buildTable a) r b) := by
  unfold stepByte
  split <;> rw [tableAt_buildTable]
  · exact fits_xor (fits_tblEntry ha _) (fits_ushiftRight ha.w_le hr 8)
  · exact fits_xor (fits_and_mask _ _) (fits_tblEntry ha _)

/-- The raw value stays below 2^W, whatever the bytes (10_state.md R63). -/
theorem fits_runBytes {r : Word} (hr : Fits a.w r) (bytes : List Byte) :
    Fits a.w (runBytes a (buildTable a) r bytes) := by
  induction bytes generalizing r with
  | nil => exact hr
  | cons b bs ih => exact ih (fits_stepByte ha hr b)

end fits

/-- What CONFIG latches of a spec of a legal width is a legal active spec (40_table_builder.md R135). -/
theorem actLegal_latch {sp : Spec} (hw : widthLegal sp.ctrl.width = true) : ActLegal (Act.latch sp) := by
  refine ⟨?_, rfl, fits_and_mask _ _, fits_and_mask _ _, fits_and_mask _ _, fits_and_mask _ _⟩
  rw [widthLegal, Bool.or_eq_true, decide_eq_true_iff, decide_eq_true_iff] at hw
  rcases hw with h | h
  · exact .inl (by rw [Act.latch, h]; rfl)
  · exact .inr (by rw [Act.latch, h]; rfl)

/-! The invariant. -/

/-- The state right after hardware reset meets the invariant: no error, READY = 0, nothing in flight. -/
theorem inv_of_resetValues {t : State} (status : t.status = State.reset.status) (inflight : t.inflight = none) :
    Inv t where
  err := status ▸ ⟨by decide, by decide⟩
  ready h := by rw [status] at h; cases h
  inflight f hf := by rw [inflight] at hf; cases hf
  config f hf := by rw [inflight] at hf; cases hf

/-- Settles O45, from the reset values of STATUS and INFLIGHT. -/
theorem resetMeetsInvariant : Obligations.ResetMeetsInvariant := inv_of_resetValues rfl rfl

theorem Configured.of_same {s t : State} (h : Configured s) (active : SameActive s t) (reg : Fits s.act.w t.reg) :
    Configured t where
  act := active.act ▸ h.act
  table := by rw [active.act, active.table]; exact h.table
  selftest := by rw [active.act, active.table]; exact h.selftest
  reg := active.act ▸ reg

/-- The invariant from that of a state with the same engine, READY set there if it is here, and legal flags and command in
flight. -/
theorem Inv.of_same {s t : State} (h : Inv s) (active : SameActive s t) (reg : t.reg = s.reg)
    (err : ErrConsistent t.status) (ready : t.status.ready = true → s.status.ready = true)
    (inflight : ∀ f, t.inflight = some f → InFlightLegal f ∧ (f.op = 0x01#8 → t.status.ready = false)) : Inv t where
  err := err
  ready hr := (h.ready (ready hr)).of_same active (reg ▸ (h.ready (ready hr)).reg)
  inflight f hf := (inflight f hf).1
  config f hf := (inflight f hf).2

/-- What the invariant says of the command in flight. -/
theorem Inv.flight {s : State} (h : Inv s) (f : InFlight) (hf : s.inflight = some f) :
    InFlightLegal f ∧ (f.op = 0x01#8 → s.status.ready = false) := ⟨h.inflight f hf, h.config f hf⟩

/-- A decoded word that issues puts a legal command in flight (43_host_access.md R224). -/
theorem command_of_decodeCmd {v : Word} {i : Instr} (hd : decodeCmd v = .ok i) (hi : i.issues = true) {f : InFlight}
    (hop : f.op = opcodeOf v) (harg : f.arg = argOf v) : f.command = some i := by
  rw [InFlight.command, hop, harg, commandWord_of_decodeCmd_ok hd, hd]
  simp [hi]

theorem inv_issue {s : State} (h : Inv s) {v : Word} {i : Instr} (hd : decodeCmd v = .ok i) (hi : i.issues = true) :
    Inv (s.issue (opcodeOf v) (argOf v)) := by
  refine h.of_same ⟨rfl, rfl⟩ rfl ⟨h.err.err_iff, h.err.op_zero⟩ ?_ ?_
  · exact fun hr => (Bool.and_eq_true_iff.mp hr).1
  · intro f hf
    cases hf
    refine ⟨⟨?_, latency_pos _ _ _ _, nofun⟩, ?_⟩
    · rw [command_of_decodeCmd hd hi rfl rfl]; rfl
    · intro hop
      simp only at hop
      simp [hop]

theorem inv_present {s : State} (h : Inv s) (v : Word) : Inv (s.present v) := by
  have err : ErrConsistent (s.present v).status := by
    obtain hmove | ⟨_, _, hp⟩ := present_flags v s
    · exact hmove.errConsistent h.err
    · rw [hp]; exact ⟨by simp [Status.cleared], by simp [Status.cleared]⟩
  obtain ⟨_, hp⟩ | ⟨_, e, op, hp⟩ | ⟨_, i, hd, hi, hp⟩ | ⟨_, i, _, _, hp⟩ := present_cases v s <;> rw [hp] at err ⊢
  · exact h.of_same ⟨rfl, rfl⟩ rfl err (by simp) (by simpa using h.flight)
  · exact h.of_same ⟨rfl, rfl⟩ rfl err (by simp) (by simpa using h.flight)
  · exact inv_issue h hd hi
  · exact h.of_same ⟨rfl, rfl⟩ rfl err id h.flight

theorem inv_storeReg {s : State} (h : Inv s) (r : RegName) (v : Word) : Inv (s.storeReg r v) := by
  obtain ⟨engine, active, _, status, inflight, _⟩ := storeReg_keeps r v s
  exact h.of_same active engine.reg (status ▸ h.err) (status ▸ id) (by rw [status, inflight]; exact h.flight)

/-- Only a register the command in flight writes is noted as raced (log 6). -/
theorem inv_noteRace {s : State} (h : Inv s) (r : RegName) : Inv (s.noteRace r) := by
  unfold State.noteRace
  split
  · exact h
  · rename_i f hf
    split
    · rename_i hr
      refine h.of_same ⟨rfl, rfl⟩ rfl h.err id fun g hg => ?_
      cases hg
      obtain ⟨legal, config⟩ := h.flight f hf
      refine ⟨⟨legal.command, legal.remaining, fun r' hr' => ?_⟩, config⟩
      obtain rfl | hold := List.mem_cons.mp hr'
      · exact hr.1
      · exact legal.raced r' hold
    · exact h

theorem inv_writeReg {s : State} (h : Inv s) (r : RegName) (v : Word) : Inv (s.writeReg r v) := by
  unfold State.writeReg
  split
  · exact inv_present h v
  · exact inv_noteRace (inv_storeReg h r v) r

theorem inv_hostSideOnly {s t : State} (h : Inv s) (hst : HostSideOnly s t) : Inv t := by
  obtain ⟨l, rs, failed, k, rfl⟩ := hst
  exact h.of_same ⟨rfl, rfl⟩ rfl h.err id h.flight

/-- A command that is not due has more than one cycle left. -/
theorem inv_tick {s : State} (h : Inv s) (hdue : s.due = none) : Inv s.tick := by
  refine h.of_same ⟨by simp, by simp⟩ (by simp) (by simpa using h.err) (by simp) fun g hg => ?_
  rw [tick_inflight, Option.map_eq_some_iff] at hg
  obtain ⟨f, hf, rfl⟩ := hg
  obtain ⟨legal, config⟩ := h.flight f hf
  have left : 1 < f.remaining := by
    by_contra hle
    have := due_eq_some.mpr ⟨hf, Nat.not_lt.mp hle⟩
    rw [hdue] at this; cases this
  exact ⟨⟨legal.command, Nat.le_sub_one_of_lt left, legal.raced⟩, by simpa using config⟩

/-- A completion that leaves READY = 1 leaves a configured engine: a CONFIG has just built it, and of the other commands
only RESET and UPDATE write REG, with values below 2^W (10_state.md R63). -/
theorem configured_of_completes {s t : State} {i : Instr} (h : Inv s) (hc : Completes s i t)
    (hr : t.status.ready = true) : Configured t := by
  cases hc with
  | raised i e op =>
    have hs := h.ready ((record_ready e op s.status).symm.trans hr)
    exact hs.of_same ⟨rfl, rfl⟩ hs.reg
  | operands | combined =>
    have hs := h.ready hr
    exact hs.of_same ⟨rfl, rfl⟩ hs.reg
  | reset => exact (h.ready hr).of_same ⟨rfl, rfl⟩ (h.ready hr).act.init
  | updated nbytes bytes =>
    have hs := h.ready hr
    refine hs.of_same ⟨rfl, rfl⟩ ?_
    rw [State.finish_reg]
    dsimp only
    rw [hs.table]
    exact fits_runBytes hs.act hs.reg bytes
  | selftestFailed => simp at hr
  | configFailed act table e => simp at hr
  | configured sp width selftest =>
    exact ⟨actLegal_latch width, rfl, selftest, (actLegal_latch width).init⟩

/-- A completion keeps the invariant: the engine is configured where READY = 1, and nothing is in flight. -/
theorem inv_completes {s t : State} {i : Instr} (h : Inv s) (hc : Completes s i t) : Inv t where
  err := hc.flags.errConsistent h.err
  ready := configured_of_completes h hc
  inflight f hf := by rw [hc.done.2] at hf; cases hf
  config f hf := by rw [hc.done.2] at hf; cases hf

/-- The host's part of a cycle keeps the invariant. -/
theorem inv_hostMoves {s t : State} (h : Inv s) (hst : HostMoves s t) : Inv t := by
  obtain hside | ⟨r, v, l, _, rfl⟩ := hst
  · exact inv_hostSideOnly h hside
  · have before : Inv (s.setTodo l) := inv_hostSideOnly h ⟨_, _, _, _, rfl⟩
    exact inv_hostSideOnly (inv_writeReg before r v) ⟨_, _, _, _, rfl⟩

/-- Settles O46: a hardware reset, a completion, and the host's part of a cycle each keep the invariant. -/
theorem stepKeepsInvariant : Obligations.StepKeepsInvariant := by
  intro s t h hstep
  obtain ⟨req, rest, _, rfl⟩ | ⟨f, i, _, _, hc⟩ | ⟨hdue, hhost⟩ := step_moves hstep
  · cases req <;> exact inv_of_resetValues rfl rfl
  · exact inv_completes h hc
  · exact inv_hostMoves (inv_tick h hdue) hhost

end Sys2Proof.Machine
end

section
/-! PROOFS, family 20_memory.md: illegal accesses (R73), reads (R79), and CONFIG as a function of the staging values (R89). -/

namespace Sys2Proof.Machine

/-- Settles O33: RD changes the answers and the counter of free values alone. -/
theorem readsHaveNoEffect : Obligations.ReadsHaveNoEffect := by
  intro s t addr h
  obtain ⟨a, k, rfl⟩ := execRd_eq h
  rfl

/-! Illegal accesses. -/

/-- A descriptor of SIZE = 3 is the one 30_encoding.md R102 writes for its direction and offset. -/
theorem desc_of_size {d : BitVec 16} (size : descSize d = 3#3) : d = busDesc (descWrite d) (descAddr d) := by
  refine (desc_of_fields d).trans ?_
  rw [size]
  rfl

/-- The two rows of the bus accesses agree under the mask without WRITE (30_encoding.md R102). -/
theorem busDesc_and_mask (write : Bool) {addr : BitVec 12} (aligned : addr.toNat % 8 = 0) :
    busDesc write addr &&& 0x7007#16 = 0x3000#16 := by
  have withWrite : busDesc write addr &&& 0xF007#16 = if write then 0xB000#16 else 0x3000#16 := by
    cases write with
    | false => exact (Laws.TableRow.rd addr (decide_eq_true aligned)).2
    | true => exact (Laws.TableRow.wr addr 0#64 (decide_eq_true aligned)).2
  have narrower : 0x7007#16 = 0xF007#16 &&& 0x7007#16 := by decide
  rw [narrower, ← BitVec.and_assoc, withWrite]
  cases write <;> rfl

theorem decodeBus_of_illegal {d : BitVec 16} (x : Word) (h : d &&& 0x7007#16 ≠ 0x3000#16) :
    decodeBus d x = .illegalAccess := by
  refine if_neg fun ⟨size, aligned⟩ => h ?_
  rw [desc_of_size size]
  exact busDesc_and_mask _ aligned

theorem hostRequest_of_illegal {d : BitVec 16} {x : Word} (h : decodeBus d x = .illegalAccess) (s : State) :
    hostRequest d x s = .next (s.respond (.slverr 0#64)) := by
  rw [hostRequest, h]

/-- A request in a cycle with no completion due meets the ticked state (log 2). -/
theorem step_of_request {s : State} {d : BitVec 16} {x : Word} {rest : List HostStmt} (hdue : s.due = none)
    (htodo : s.todo = .request d x :: rest) : step s = hostRequest d x (s.tick.setTodo rest) := by
  have noReset : ∀ req l, s.todo ≠ .rstLow req :: l := by simp [htodo]
  rw [step_of_not_due noReset hdue, hostStep, State.tick_todo, htodo]

/-- STATUS does not show the remaining cycles of the command in flight. -/
@[simp] theorem statusWord_tick (s : State) : s.tick.statusWord = s.statusWord := by
  simp [State.statusWord, State.irq]

theorem exec_rd_of_misaligned {addr : BitVec 12} (h : addr.toNat % 8 ≠ 0) (s : State) :
    exec (.rd addr) s = .next (s.respond (.slverr 0#64)) := if_neg h

theorem exec_wr_of_misaligned {addr : BitVec 12} (h : addr.toNat % 8 ≠ 0) (x : Word) (s : State) :
    exec (.wr addr x) s = .next (s.respond (.slverr 0#64)) := if_neg h

/-- Settles O8: the descriptor decodes to no access, and the answer to that is all the request does. -/
theorem illegalAccessHasNoEffect : Obligations.IllegalAccessHasNoEffect := by
  refine ⟨fun s d x rest hdue htodo hd => ⟨?_, statusWord_tick s⟩, fun s addr x h => ?_⟩
  · rw [step_of_request hdue htodo, hostRequest_of_illegal (decodeBus_of_illegal x hd)]
    simp [State.respond, State.setTodo]
  · exact ⟨exec_rd_of_misaligned h s, exec_wr_of_misaligned h x s⟩

/-! CONFIG as a function of the staging values. -/

/-- Does a spec of a legal width pass the self-test on the table built of it (40_table_builder.md R138)? -/
def selftestPasses (sp : Spec) : Bool :=
  selftestDigest (Act.latch sp) (buildTable (Act.latch sp)) = (Act.latch sp).check

/-- Every element of the engine that CONFIG writes is the one `sp` gives (40_table_builder.md R135, R136, R140). -/
structure ConfiguredFrom (sp : Spec) (t : State) : Prop where
  act : t.act = Act.latch sp
  table : t.table = buildTable (Act.latch sp)
  reg : t.reg = if selftestPasses sp then (Act.latch sp).init else 0#64
  count : t.count = 0#64
  ready : t.status.ready = selftestPasses sp

theorem ConfiguredFrom.digest {sp : Spec} {t : State} (h : ConfiguredFrom sp t) :
    t.regValue .digest = if selftestPasses sp then fin (Act.latch sp) (Act.latch sp).init else 0#64 := by
  rw [State.regValue, h.ready, h.act, h.reg]
  cases selftestPasses sp <;> simp

/-- What CONFIG makes of the engine depends on the spec alone, whether its self-test passes or fails. -/
theorem configuredFrom_configCompletes {snap : Snap} (width : widthLegal snap.spec.ctrl.width = true) (s : State) :
    ConfiguredFrom snap.spec (configCompletes snap s) := by
  unfold configCompletes
  rw [if_pos width]
  dsimp only
  split
  · rename_i pass
    have passes : selftestPasses snap.spec = true := decide_eq_true pass
    exact ⟨rfl, rfl, by simp [passes], rfl, by simp [passes]⟩
  · rename_i fail
    have fails : selftestPasses snap.spec = false := decide_eq_false fail
    exact ⟨rfl, rfl, by simp [fails], rfl, by simp [fails]⟩

/-- A CONFIG that is carried leaves the engine its operands give. -/
theorem configuredFrom_of_exec {s t : State} {snap : Snap} (carried : Carried 0x01#8 0#8 snap s)
    (width : widthLegal snap.spec.ctrl.width = true) (h : exec .config s = .next t) : ConfiguredFrom snap.spec t := by
  rw [exec_of_carried rfl rfl carried] at h
  cases h
  exact configuredFrom_configCompletes width s

/-- Settles O59: both engines are the one that the common spec gives. -/
theorem equalSpecsGiveEqualTables : Obligations.EqualSpecsGiveEqualTables := by
  intro s s' t t' snap snap' carried carried' specs width h h'
  have here := configuredFrom_of_exec carried width h
  have there := configuredFrom_of_exec carried' (specs ▸ width) h'
  rw [← specs] at there
  exact ⟨here.act.trans there.act.symm, here.table.trans there.table.symm, here.reg.trans there.reg.symm,
    here.count.trans there.count.symm, here.ready.trans there.ready.symm, here.digest.trans there.digest.symm⟩

end Sys2Proof.Machine
end

section
/-! PROOFS, family 30_encoding.md: decoding and encoding (R101 to R111), a bus request as its access (R102), and the
host's statements (R113, R114). -/

namespace Sys2Proof.Machine

/-! Command words. -/

/-- The encoding of a command is the command word of its OPCODE and ARG (30_encoding.md R104, R108). -/
theorem encode_of_opArg {i : Instr} {op arg : Byte} (h : opArg i = some (op, arg)) :
    encode i = .command (commandWord op arg) := by
  cases i
  case rd | wr => cases h
  all_goals cases h; rfl

/-- A command is what the word of its OPCODE and ARG decodes to, if its ARG is in range (30_encoding.md R111). -/
theorem decodeCmd_of_opArg {i : Instr} {op arg : Byte} (h : opArg i = some (op, arg)) (legal : WellFormed i) :
    decodeCmd (commandWord op arg) = .ok i := by
  rw [decodeCmd_commandWord]
  cases i
  case rd | wr => cases h
  case update =>
    cases h
    have inRange : arg.toNat ≤ 8 := of_decide_eq_true legal
    simp [commandOf, inRange]
  case loadPreset =>
    cases h
    have inRange : arg.toNat ≤ 1 := of_decide_eq_true legal
    simp [commandOf, inRange]
  all_goals cases h; rfl

/-! Bus descriptors. -/

@[simp] theorem descWrite_busDesc (write : Bool) (addr : BitVec 12) : descWrite (busDesc write addr) = write := by
  simp [descWrite, busDesc]

@[simp] theorem descSize_busDesc (write : Bool) (addr : BitVec 12) : descSize (busDesc write addr) = 3#3 := by
  refine BitVec.eq_of_getLsbD_eq fun i hi => ?_
  simp only [descSize, busDesc, BitVec.getLsbD_extractLsb', BitVec.getLsbD_or, BitVec.getLsbD_shiftLeft,
    BitVec.getLsbD_setWidth]
  interval_cases i <;> simp

@[simp] theorem descAddr_busDesc (write : Bool) (addr : BitVec 12) : descAddr (busDesc write addr) = addr := by
  refine BitVec.eq_of_getLsbD_eq fun i hi => ?_
  simp only [descAddr, busDesc, BitVec.getLsbD_extractLsb', BitVec.getLsbD_or, BitVec.getLsbD_shiftLeft,
    BitVec.getLsbD_setWidth]
  interval_cases i <;> simp

/-- The descriptor of an access at an aligned offset decodes to that access (30_encoding.md R102). -/
theorem decodeBus_busDesc (write : Bool) {addr : BitVec 12} (aligned : addr.toNat % 8 = 0) (x : Word) :
    decodeBus (busDesc write addr) x = if write then .ok (.wr addr x) else .ok (.rd addr) := by
  simp [decodeBus, aligned]

/-- A legal form is what its encoding decodes to. -/
theorem decode_encode {i : Instr} (legal : WellFormed i) : decode (encode i) = .ok i := by
  cases fields : opArg i with
  | some f => rw [encode_of_opArg fields]; exact decodeCmd_of_opArg fields legal
  | none =>
    cases i with
    | rd addr => exact decodeBus_busDesc false (of_decide_eq_true legal) 0#64
    | wr addr x => exact decodeBus_busDesc true (of_decide_eq_true legal) x
    | nop | config | reset | update | captureA | captureB | combine | selftest | loadPreset | clear => cases fields

/-- Settles O2: a command by its OPCODE and ARG, a bus access by the fields of its descriptor. -/
theorem decodeOfEncode : Obligations.DecodeOfEncode := fun _ => decode_encode

/-- A command word that decodes is the encoding of a legal form. -/
theorem encode_of_decodeCmd {v : Word} {i : Instr} (h : decodeCmd v = .ok i) :
    WellFormed i ∧ encode i = .command v := by
  have word := commandWord_of_decodeCmd_ok h
  obtain ⟨fields, legal⟩ := opArg_of_decodeCmd (word ▸ h)
  exact ⟨legal, by rw [encode_of_opArg fields, word]⟩

/-- A descriptor that decodes is the encoding of a legal access. -/
theorem encode_of_decodeBus {d : BitVec 16} {x : Word} {i : Instr} (h : decodeBus d x = .ok i) :
    WellFormed i ∧ encode i = .bus d (if descWrite d then x else 0#64) := by
  unfold decodeBus at h
  split at h
  · rename_i legal
    obtain ⟨size, aligned⟩ := legal
    have desc := desc_of_size size
    cases write : descWrite d
    all_goals
      rw [write] at h desc
      cases h
      exact ⟨decide_eq_true aligned, congrArg (Encoded.bus · _) desc.symm⟩
  · cases h

/-- Settles O3: a command word is that of its OPCODE and ARG, a descriptor of SIZE = 3 is `busDesc` of its fields. -/
theorem encodeOfDecode : Obligations.EncodeOfDecode :=
  ⟨fun _ _ => encode_of_decodeCmd, fun _ _ _ => encode_of_decodeBus⟩

/-- Settles O1: the legal words are encodings; the others are evaluated. -/
theorem sampleWordsDecode : Obligations.SampleWordsDecode :=
  ⟨decode_encode (i := .update 8#8) rfl, decode_encode (i := .update 1#8) rfl, decode_encode (i := .loadPreset 1#8) rfl,
    by decide, by decide, by decide,
    decode_encode (i := .rd 0x058#12) rfl, fun v => decode_encode (i := .wr 0x018#12 v) rfl,
    decode_encode (i := .nop) rfl, decode_encode (i := .config) rfl, decode_encode (i := .reset) rfl,
    decode_encode (i := .captureA) rfl, decode_encode (i := .captureB) rfl, decode_encode (i := .combine) rfl,
    decode_encode (i := .selftest) rfl, decode_encode (i := .clear) rfl⟩

/-! The fields of a command word as numbers. -/

theorem opcodeOf_eq_ofNat (v : Word) : opcodeOf v = BitVec.ofNat 8 (v.toNat % 256) := by
  apply BitVec.eq_of_toNat_eq
  simp [opcodeOf]

theorem argOf_eq_ofNat (v : Word) : argOf v = BitVec.ofNat 8 (v.toNat / 256 % 256) := by
  apply BitVec.eq_of_toNat_eq
  simp [argOf, Nat.shiftRight_eq_div_pow]

theorem rsvdOf_eq_zero_iff (v : Word) : rsvdOf v = 0#48 ↔ v.toNat < 65536 := by
  have rsvd : (rsvdOf v).toNat = v.toNat / 65536 % 2 ^ 48 := by
    simp [rsvdOf, Nat.shiftRight_eq_div_pow]
  have bound := v.isLt
  rw [← BitVec.toNat_inj, rsvd, BitVec.toNat_ofNat]
  omega

/-- A number below 256 is that of a byte. -/
theorem ofNat_eq_byte_iff {n : Nat} (hn : n < 256) (b : Byte) : BitVec.ofNat 8 n = b ↔ n = b.toNat := by
  rw [← BitVec.toNat_inj, BitVec.toNat_ofNat, Nat.mod_eq_of_lt hn]

/-- Settles O4: each test of the decoder is the test of the statement, on the fields as numbers. -/
theorem commandWordDecodes : Obligations.CommandWordDecodes := by
  intro v op arg
  have hop : op < 256 := Nat.mod_lt _ (by decide)
  have harg : arg < 256 := Nat.mod_lt _ (by decide)
  have opNat : (BitVec.ofNat 8 op).toNat = op := Nat.mod_eq_of_lt hop
  have argNat : (BitVec.ofNat 8 arg).toNat = arg := Nat.mod_eq_of_lt harg
  have isUpdate : BitVec.ofNat 8 op = 0x03#8 ↔ op = 3 := ofNat_eq_byte_iff hop _
  have isPreset : BitVec.ofNat 8 op = 0x08#8 ↔ op = 8 := ofNat_eq_byte_iff hop _
  have noArg : BitVec.ofNat 8 arg = 0#8 ↔ arg = 0 := ofNat_eq_byte_iff harg _
  have opcode : opcodeOf v = BitVec.ofNat 8 op := opcodeOf_eq_ofNat v
  have argument : argOf v = BitVec.ofNat 8 arg := argOf_eq_ofNat v
  simp only [decodeCmd, opcode, argument, ne_eq, rsvdOf_eq_zero_iff, Nat.not_lt, opNat, argNat, isUpdate, isPreset,
    noArg]

/-! Match and mask of a bus descriptor. -/

/-- A descriptor is its fields (30_encoding.md R101). -/
theorem desc_eq_iff (d e : BitVec 16) :
    d = e ↔ descWrite d = descWrite e ∧ descSize d = descSize e ∧ descAddr d = descAddr e := by
  constructor
  · rintro rfl; exact ⟨rfl, rfl, rfl⟩
  · rintro ⟨write, size, addr⟩
    rw [desc_of_fields d, write, size, addr, ← desc_of_fields e]

theorem descWrite_and (d m : BitVec 16) : descWrite (d &&& m) = (descWrite d && descWrite m) := BitVec.getLsbD_and

theorem descSize_and (d m : BitVec 16) : descSize (d &&& m) = descSize d &&& descSize m := BitVec.extractLsb'_and

theorem descAddr_and (d m : BitVec 16) : descAddr (d &&& m) = descAddr d &&& descAddr m := BitVec.extractLsb'_and

/-- Under the mask of an aligned offset nothing is left of it (20_memory.md R72). -/
theorem and_seven_eq_zero_iff (addr : BitVec 12) : addr &&& 7#12 = 0#12 ↔ addr.toNat % 8 = 0 := by
  rw [← BitVec.toNat_inj, BitVec.toNat_and]
  exact Eq.congr_left (Nat.and_two_pow_sub_one_eq_mod addr.toNat 3)

/-- The match and mask of the rows of RD and WR say what the fields are (30_encoding.md R102). -/
theorem rowMask_iff (d : BitVec 16) (write : Bool) : d &&& 0xF007#16 = busDesc write 0#12 ↔
    descWrite d = write ∧ descSize d = 3#3 ∧ (descAddr d).toNat % 8 = 0 := by
  have maskWrite : descWrite 0xF007#16 = true := by decide
  have maskSize : descSize 0xF007#16 = BitVec.allOnes 3 := by decide
  have maskAddr : descAddr 0xF007#16 = 7#12 := by decide
  rw [desc_eq_iff, descWrite_and, descSize_and, descAddr_and, maskWrite, maskSize, maskAddr, Bool.and_true,
    BitVec.and_allOnes, descWrite_busDesc, descSize_busDesc, descAddr_busDesc, and_seven_eq_zero_iff]

theorem descAddr_eq_setWidth (d : BitVec 16) : descAddr d = d.setWidth 12 :=
  (BitVec.setWidth_eq_extractLsb' (by decide)).symm

/-- Settles O5: the two rows are the legal descriptors without and with WRITE. -/
theorem busDescriptorDecodes : Obligations.BusDescriptorDecodes := by
  intro d x
  have isRd : d &&& 0xF007#16 = 0x3000#16 ↔ _ := rowMask_iff d false
  have isWr : d &&& 0xF007#16 = 0xB000#16 ↔ _ := rowMask_iff d true
  simp only [isRd, isWr, decodeBus, ← descAddr_eq_setWidth]
  by_cases legal : descSize d = 3#3 ∧ (descAddr d).toNat % 8 = 0
  · cases descWrite d <;> simp [legal]
  · simp [legal]

/-! The host's statements. -/

/-- `busDesc` with the bits its row of the opcode table fixes (30_encoding.md R102). -/
theorem busDesc_eq (write : Bool) (addr : BitVec 12) :
    busDesc write addr = (if write then 0xB000#16 else 0x3000#16) ||| addr.setWidth 16 := by cases write <;> rfl

theorem asmWr_cmd (v : Word) : asmWr .cmd v = .request 0xB018#16 v := by rw [asmWr, busDesc_cmd]

/-- The assembler takes a command of a legal form and refuses any other (30_encoding.md R113). -/
theorem asmCmd_of_command {i : Instr} {v : Word} (h : encode i = .command v) :
    asmCmd i = if i.wellFormed then some (.request 0xB018#16 v) else none := by
  rw [asmCmd, h, ← asmWr_cmd]

theorem asmIssue_of_wellFormed {i : Instr} {v : Word} (h : encode i = .command v) (legal : WellFormed i) :
    asmIssue i = some [.request 0xB018#16 v, .wait] := by
  rw [asmIssue, asmCmd_of_command h, if_pos legal, Option.map_some]

theorem asmIssue_of_not_wellFormed {i : Instr} {v : Word} (h : encode i = .command v) (illegal : ¬ WellFormed i) :
    asmIssue i = none := by
  rw [asmIssue, asmCmd_of_command h, if_neg illegal, Option.map_none]

/-- FEED and PRESET are ISSUE behind a write of DIN, and ISSUE twice (30_encoding.md R114). -/
theorem assemble_feed_preset {n p : Byte} (hn : n.toNat ≤ 8) (hp : p.toNat ≤ 1) (x : Word) :
    assemble (.feed x n) = some [.request 0xB048#16 x, .request 0xB018#16 (commandWord 0x03#8 n), .wait] ∧
      assemble (.preset p) =
        some [.request 0xB018#16 (commandWord 0x08#8 p), .wait, .request 0xB018#16 0x1#64, .wait] := by
  have update : asmIssue (.update n) = _ := asmIssue_of_wellFormed rfl (decide_eq_true hn)
  have preset : asmIssue (.loadPreset p) = _ := asmIssue_of_wellFormed rfl (decide_eq_true hp)
  have config : asmIssue .config = _ := asmIssue_of_wellFormed rfl rfl
  rw [assemble, assemble, update, preset, config]
  exact ⟨rfl, rfl⟩

@[simp] theorem regValue_setTodo (l : List HostStmt) (s : State) (r : RegName) :
    (s.setTodo l).regValue r = s.regValue r := by cases r <;> rfl

/-- A read at a register's offset is the read of that register (43_host_access.md R220). -/
theorem exec_rd_offset (r : RegName) (s : State) : exec (.rd r.offset) s = .next (s.readReg r) := by
  simp [exec, execRd]

theorem readReg_of_specified {r : RegName} {s : State} (h : s.readUnspecified r = false) :
    s.readReg r = s.respond (.read (s.regValue r)) := by simp [State.readReg, h]

/-- A read the host makes of a register whose value is specified answers that value (43_host_access.md R220). -/
theorem exec_rd_setTodo {r : RegName} {s : State} (h : s.readUnspecified r = false) (l : List HostStmt) :
    exec (.rd r.offset) (s.setTodo l) = .next ((s.setTodo l).respond (.read (s.regValue r))) := by
  have specified : (s.setTodo l).readUnspecified r = false := h
  rw [exec_rd_offset, readReg_of_specified specified, regValue_setTodo]

/-- No command in flight makes STATUS hazardous (70_reset_and_hazards.md R297). -/
theorem status_not_mem_hazardReads (op : Byte) : RegName.status ∉ hazardReads op := by
  unfold hazardReads
  repeat' split
  all_goals decide

theorem readUnspecified_status (s : State) : s.readUnspecified .status = false := by
  unfold State.readUnspecified
  split
  · rfl
  · exact decide_eq_false (status_not_mem_hazardReads _)

/-- Settles O7: the request meets the ticked state (log 2), and does what its descriptor decodes to. -/
theorem requestRunsTheAccess : Obligations.RequestRunsTheAccess := by
  intro s d x rest i hdue htodo hd
  rw [step_of_request hdue htodo, hostRequest, hd]

/-- WAIT reads STATUS, and stays the next statement while BUSY = 1 (30_encoding.md R114). -/
theorem step_of_wait {s : State} {rest : List HostStmt} (hdue : s.due = none) (htodo : s.todo = .wait :: rest) :
    step s = .next { s.tick with
      todo := if s.busy then s.todo else rest
      responses := .read s.statusWord :: s.responses } := by
  have noReset : ∀ req l, s.todo ≠ .rstLow req :: l := by simp [htodo]
  have left : (if s.tick.busy then s.tick else s.tick.setTodo rest) =
      s.tick.setTodo (if s.busy then s.tick.todo else rest) := by
    rw [busy_tick]
    split <;> rfl
  rw [step_of_not_due noReset hdue, hostStep, State.tick_todo, htodo]
  dsimp only
  rw [left, exec_rd_setTodo (readUnspecified_status _), State.tick_todo, htodo]
  simp [State.respond, State.setTodo, State.regValue]

/-- EXPECT of a register whose value is specified (30_encoding.md R114). -/
theorem step_of_expect {s : State} {r : RegName} {val : Word} {rest : List HostStmt} (hdue : s.due = none)
    (htodo : s.todo = .expect r.offset val :: rest) (specified : s.tick.readUnspecified r = false) :
    step s = .next (hostExpects val ((s.tick.setTodo rest).respond (.read (s.tick.regValue r)))) := by
  have noReset : ∀ req l, s.todo ≠ .rstLow req :: l := by simp [htodo]
  rw [step_of_not_due noReset hdue, hostStep, State.tick_todo, htodo]
  dsimp only
  rw [exec_rd_setTodo specified]

theorem hostExpects_respond_read (val v : Word) (s : State) : hostExpects val (s.respond (.read v)) =
    if v = val then s.respond (.read v) else (s.respond (.read v)).hostStop := by
  simp [hostExpects]

/-- What EXPECT leaves: the answer, and the host's failure exactly where the value differs (30_encoding.md R114). -/
theorem expect_outcome {s : State} {r : RegName} {val : Word} {rest : List HostStmt} (hdue : s.due = none)
    (htodo : s.todo = .expect r.offset val :: rest) (specified : s.tick.readUnspecified r = false) :
    ∃ t, step s = .next t ∧ t.responses = .read (s.tick.regValue r) :: s.responses ∧
      (s.tick.regValue r = val → t.todo = rest ∧ t.hostFailed = s.hostFailed) ∧
      (s.tick.regValue r ≠ val → t.todo = [] ∧ t.hostFailed = true) := by
  refine ⟨_, step_of_expect hdue htodo specified, ?_⟩
  rw [hostExpects_respond_read]
  split
  · rename_i same
    exact ⟨by simp, fun _ => ⟨rfl, by simp⟩, absurd same⟩
  · rename_i differs
    exact ⟨by simp, (absurd · differs), fun _ => ⟨rfl, rfl⟩⟩

/-- REPEAT is unrolled, one body first (30_encoding.md R113, log 12). -/
theorem assemble_loop_succ {p : Asm} {l : List HostStmt} (h : assemble p = some l) (k : Nat) :
    assemble (.loop (k + 1) p) = (assemble (.loop k p)).map (l ++ ·) := by
  simp [assemble, h, List.replicate_succ]

/-- Settles O60: ISSUE and CMD by `asmCmd_of_command`, EXPECT and WAIT by what a cycle of each does. -/
theorem hostStatementsRun : Obligations.HostStatementsRun := by
  refine ⟨fun _ _ => asmIssue_of_wellFormed, fun _ _ => asmIssue_of_not_wellFormed, fun _ _ _ _ => expect_outcome,
    fun _ _ => step_of_wait, fun r x => ?requests, fun i v h legal => ?command,
    fun x _ _ hn hp => assemble_feed_preset hn hp x, fun a b k l m ha hb => ?programs⟩
  case requests =>
    rw [assemble, assemble, assemble, asmRd, asmWr, busDesc_eq, busDesc_eq, asmWr_cmd]
    exact ⟨rfl, rfl, rfl, rfl⟩
  case command => rw [assemble, asmCmd_of_command h, if_pos legal, Option.map_some]
  case programs =>
    refine ⟨rfl, rfl, ?_, ?_, assemble_loop_succ ha k⟩
    · rw [assemble, ha, hb]; rfl
    · rw [assemble, ha]; rfl

end Sys2Proof.Machine
end

section
/-! PROOFS, family 40_table_builder.md: the table over GF(2) (R134) and the byte step by it (R133), CONFIG (R135 to
R140), LOAD_PRESET (R131, R143), SELFTEST (R144) and the self-test property (R145). -/

namespace Sys2Proof.Machine

/-! The shift register over GF(2): which bits leave, what is left, and linearity. -/

/-- The position, in a value of `w` bits, of the bit that leaves at the shift after `k` others: from bit 0 up under
REFIN = 1, from bit W-1 down under REFIN = 0 (40_table_builder.md R133). -/
def outPos (refin : Bool) (w k : Nat) : Nat := if refin then k else w - 1 - k

/-- `c` shifted `n` times with no POLY XORed in (40_table_builder.md R133). -/
def shiftOut (a : Act) (n : Nat) (c : Word) : Word := if a.ctrl.refin then c >>> n else (c <<< n) &&& mask a.w

/-- The byte of `r` that leaves first, which `step_byte` XORs with its input (41_engine.md R160). -/
def leadByte (a : Act) (r : Word) : Byte := if a.ctrl.refin then r.setWidth 8 else (r >>> (a.w - 8)).setWidth 8

/-- One shift, and POLY where the bit that leaves is 1. -/
theorem tblShift_eq (a : Act) (c : Word) : tblShift a c =
    shiftOut a 1 c ^^^ (if c.getLsbD (outPos a.ctrl.refin a.w 0) then a.poly else 0#64) := by
  unfold tblShift shiftOut outPos
  cases a.ctrl.refin <;> simp only [Bool.false_eq_true, if_true, if_false, Nat.sub_zero] <;> split <;> simp

theorem and_mask_xor (w : Nat) (u v : Word) : (u ^^^ v) &&& mask w = (u &&& mask w) ^^^ (v &&& mask w) := by
  ext i hi
  simp [Bool.and_xor_distrib_right]

theorem shiftOut_xor (a : Act) (n : Nat) (c d : Word) : shiftOut a n (c ^^^ d) = shiftOut a n c ^^^ shiftOut a n d := by
  unfold shiftOut
  split
  · exact BitVec.ushiftRight_xor_distrib c d n
  · rw [BitVec.shiftLeft_xor_distrib, and_mask_xor]

/-- POLY comes in where exactly one of the two bits that leave is 1. -/
theorem ite_xor (p q : Bool) (v : Word) :
    (if (p ^^ q) = true then v else 0#64) = (if p = true then v else 0#64) ^^^ (if q = true then v else 0#64) := by
  cases p <;> cases q <;> simp

/-- A shift is linear over GF(2) (40_table_builder.md R134). -/
theorem tblShift_xor (a : Act) (c d : Word) : tblShift a (c ^^^ d) = tblShift a c ^^^ tblShift a d := by
  rw [tblShift_eq, tblShift_eq a c, tblShift_eq a d, shiftOut_xor, BitVec.getLsbD_xor, ite_xor]
  ac_rfl

theorem tblShift_iterate_xor (a : Act) (n : Nat) (c d : Word) :
    (tblShift a)^[n] (c ^^^ d) = (tblShift a)^[n] c ^^^ (tblShift a)^[n] d := by
  induction n generalizing c d with
  | zero => rfl
  | succ n ih => simp only [Function.iterate_succ_apply, tblShift_xor, ih]

theorem tblStart_xor (a : Act) (b c : Byte) : tblStart a (b ^^^ c) = tblStart a b ^^^ tblStart a c := by
  unfold tblStart
  split
  · exact BitVec.setWidth_xor
  · rw [BitVec.setWidth_xor, BitVec.shiftLeft_xor_distrib, and_mask_xor]

/-- The table is linear (40_table_builder.md R134). -/
theorem tblEntry_xor (a : Act) (b c : Byte) : tblEntry a (b ^^^ c) = tblEntry a b ^^^ tblEntry a c := by
  rw [tblEntry, tblStart_xor, tblShift_iterate_xor]
  rfl

theorem tblEntry_zero (a : Act) : tblEntry a 0#8 = 0#64 := by
  have twice := tblEntry_xor a 0#8 0#8
  rwa [BitVec.xor_self, BitVec.xor_self] at twice

/-- The byte step by the built table, with the direction in `leadByte` and `shiftOut` (41_engine.md R160). -/
theorem stepByte_buildTable (a : Act) (r : Word) (b : Byte) :
    stepByte a (buildTable a) r b = tblEntry a (leadByte a r ^^^ b) ^^^ shiftOut a 8 r := by
  unfold stepByte leadByte shiftOut
  have same : (b.setWidth 64).setWidth 8 = b := by simp
  split <;> rw [tableAt_buildTable, BitVec.setWidth_xor, same]
  exact BitVec.xor_comm _ _

section legal

variable {a : Act}

theorem shiftOut_zero {c : Word} (hc : Fits a.w c) : shiftOut a 0 c = c := by
  unfold shiftOut
  split
  · exact BitVec.ushiftRight_zero c
  · rw [BitVec.shiftLeft_zero]; exact hc

variable (ha : ActLegal a)
include ha

theorem getLsbD_shiftOut (n : Nat) (c : Word) (i : Nat) : (shiftOut a n c).getLsbD i =
    if a.ctrl.refin then c.getLsbD (n + i) else decide (i < a.w) && !decide (i < n) && c.getLsbD (i - n) := by
  have hw := ha.w_le
  unfold shiftOut
  split
  · rw [BitVec.getLsbD_ushiftRight]
  · rw [BitVec.getLsbD_and, getLsbD_mask hw, BitVec.getLsbD_shiftLeft]
    by_cases hi : i < a.w
    · simp [hi, show i < 64 by omega]
    · simp [hi]

theorem shiftOut_succ (n : Nat) (c : Word) : shiftOut a 1 (shiftOut a n c) = shiftOut a (n + 1) c := by
  refine BitVec.eq_of_getLsbD_eq fun i _ => ?_
  simp only [getLsbD_shiftOut ha]
  split
  · rw [Nat.add_assoc]
  · have index : i - 1 - n = i - (n + 1) := by omega
    have range : (i < a.w ∧ ¬ i < 1) ∧ i - 1 < a.w ∧ ¬ i - 1 < n ↔ i < a.w ∧ ¬ i < n + 1 := by omega
    simp only [index, ← Bool.and_assoc, ← decide_not, ← Bool.decide_and]
    rw [decide_eq_decide.mpr range]

/-- The bit that leaves after `n` shifts is the one at its position before them. -/
theorem getLsbD_shiftOut_outPos {n : Nat} (hn : n < a.w) (c : Word) :
    (shiftOut a n c).getLsbD (outPos a.ctrl.refin a.w 0) = c.getLsbD (outPos a.ctrl.refin a.w n) := by
  rw [getLsbD_shiftOut ha]
  unfold outPos
  split
  · rfl
  · simp [show a.w - 1 < a.w by omega, show ¬ a.w - 1 < n by omega]

/-- As long as the bits that leave are 0, the shifts are all that happens. -/
theorem tblShift_iterate_of_zeros {c : Word} (hc : Fits a.w c) {n : Nat} (hn : n ≤ a.w)
    (zeros : ∀ k, k < n → c.getLsbD (outPos a.ctrl.refin a.w k) = false) : (tblShift a)^[n] c = shiftOut a n c := by
  induction n with
  | zero => exact (shiftOut_zero hc).symm
  | succ n ih =>
    have before := ih (by omega) fun k hk => zeros k (by omega)
    have leaves : (shiftOut a n c).getLsbD (outPos a.ctrl.refin a.w 0) = false := by
      rw [getLsbD_shiftOut_outPos ha hn, zeros n (by omega)]
    rw [Function.iterate_succ_apply', before, tblShift_eq, leaves, shiftOut_succ ha]
    simp

/-- The bits of b in the order in which they leave are the bits of the value `tbl_entry` starts from in that order. -/
theorem getLsbD_tblStart_outPos (b : Byte) {k : Nat} (hk : k < 8) :
    (tblStart a b).getLsbD (outPos a.ctrl.refin a.w k) = b.getLsbD (outPos a.ctrl.refin 8 k) := by
  have h8 := ha.eight_le_w
  have hw := ha.w_le
  unfold tblStart outPos
  split
  · simp [show k < 64 by omega]
  · rw [BitVec.getLsbD_and, getLsbD_mask hw, BitVec.getLsbD_shiftLeft, BitVec.getLsbD_setWidth]
    simp [show a.w - 1 - k < a.w by omega, show a.w - 1 - k < 64 by omega, show ¬ a.w - 1 - k < a.w - 8 by omega,
      show a.w - 1 - k - (a.w - 8) = 7 - k by omega, show 7 - k < 64 by omega]

theorem getLsbD_leadByte_outPos (r : Word) {k : Nat} (hk : k < 8) :
    (leadByte a r).getLsbD (outPos a.ctrl.refin 8 k) = r.getLsbD (outPos a.ctrl.refin a.w k) := by
  have h8 := ha.eight_le_w
  unfold leadByte outPos
  split
  · simp [hk]
  · simp [show 7 - k < 8 by omega, show a.w - 8 + (7 - k) = a.w - 1 - k by omega]

/-- After 8 shifts a byte in the bits that leave first has left. -/
theorem shiftOut_tblStart (b : Byte) : shiftOut a 8 (tblStart a b) = 0#64 := by
  have h8 := ha.eight_le_w
  refine BitVec.eq_of_getLsbD_eq fun i _ => ?_
  rw [getLsbD_shiftOut ha, BitVec.getLsbD_zero]
  unfold tblStart
  split
  · simp
  · by_cases hi : i < a.w
    · have low : i < 8 ∨ i - 8 < a.w - 8 := by omega
      rcases low with low | low <;> simp [low]
    · simp [hi]

/-- A byte whose last bit to leave is its only 1 has the entry POLY (40_table_builder.md R134). -/
theorem tblEntry_eq_poly {b : Byte} (zeros : ∀ k, k < 7 → b.getLsbD (outPos a.ctrl.refin 8 k) = false)
    (last : b.getLsbD (outPos a.ctrl.refin 8 7) = true) : tblEntry a b = a.poly := by
  have h8 := ha.eight_le_w
  have before : (tblShift a)^[7] (tblStart a b) = shiftOut a 7 (tblStart a b) :=
    tblShift_iterate_of_zeros ha (fits_tblStart ha b) (by omega) fun k hk => by
      rw [getLsbD_tblStart_outPos ha b (by omega), zeros k hk]
  have leaves : (shiftOut a 7 (tblStart a b)).getLsbD (outPos a.ctrl.refin a.w 0) = true := by
    rw [getLsbD_shiftOut_outPos ha (by omega), getLsbD_tblStart_outPos ha b (by omega), last]
  rw [tblEntry, Function.iterate_succ_apply', before, tblShift_eq, leaves, shiftOut_succ ha, shiftOut_tblStart ha]
  simp

/-- Without the byte that leaves first, 8 shifts are all that happens. -/
theorem tblShift_iterate_rest {r : Word} (hr : Fits a.w r) :
    (tblShift a)^[8] (tblStart a (leadByte a r) ^^^ r) = shiftOut a 8 r := by
  have zeros : ∀ k, k < 8 → (tblStart a (leadByte a r) ^^^ r).getLsbD (outPos a.ctrl.refin a.w k) = false :=
    fun k hk => by
      rw [BitVec.getLsbD_xor, getLsbD_tblStart_outPos ha _ hk, getLsbD_leadByte_outPos ha r hk, Bool.xor_self]
  rw [tblShift_iterate_of_zeros ha (fits_xor (fits_tblStart ha _) hr) ha.eight_le_w zeros, shiftOut_xor,
    shiftOut_tblStart ha, BitVec.zero_xor]

/-- 8 shifts of a value: the entry of the byte that leaves first, and the rest shifted. -/
theorem tblShift_iterate_eight {r : Word} (hr : Fits a.w r) :
    (tblShift a)^[8] r = tblEntry a (leadByte a r) ^^^ shiftOut a 8 r := by
  have parts : tblStart a (leadByte a r) ^^^ (tblStart a (leadByte a r) ^^^ r) = r := by
    rw [← BitVec.xor_assoc, BitVec.xor_self, BitVec.zero_xor]
  calc (tblShift a)^[8] r
    _ = (tblShift a)^[8] (tblStart a (leadByte a r) ^^^ (tblStart a (leadByte a r) ^^^ r)) := by rw [parts]
    _ = tblEntry a (leadByte a r) ^^^ shiftOut a 8 r := by
      rw [tblShift_iterate_xor, tblShift_iterate_rest ha hr, tblEntry]

end legal

/-- Settles O52: linear since every shift is, and POLY where the only 1 leaves last. -/
theorem tableIsLinear : Obligations.TableIsLinear := by
  intro a ha
  refine ⟨tblEntry_zero a, tblEntry_xor a, fun refin => tblEntry_eq_poly ha ?_ ?_,
    fun refin => tblEntry_eq_poly ha ?_ ?_, fits_tblEntry ha⟩
  all_goals rw [refin]; decide

/-- Settles O53: both sides by linearity, from 8 shifts of REG alone. -/
theorem byteStepIsBitSerial : Obligations.ByteStepIsBitSerial := by
  intro a r b ha hr
  rw [stepByte_buildTable, tblEntry_xor, tblShift_iterate_xor, tblShift_iterate_eight ha hr, ← tblEntry]
  ac_rfl

/-! CONFIG. -/

/-- A command that issues is its completion on some operands, or the refusal of its word (log 3). -/
theorem exec_cases {i : Instr} {op arg : Byte} {s t : State} (hi : opArg i = some (op, arg)) (issues : i.issues = true)
    (h : exec i s = .next t) :
    (∃ snap, Carried op arg snap s ∧ t = completion i snap s) ∨ (s.busy = true ∧ t = s.record .busyViolation op) := by
  cases i
  case clear | rd | wr => cases issues
  all_goals
    cases hi
    cases h
    exact carryOut_cases _ _ _ s

/-- CONFIG whose self-test passes initialises the engine it has built (40_table_builder.md R140). -/
theorem configCompletes_of_passes {snap : Snap} (width : widthLegal snap.spec.ctrl.width = true)
    (passes : selftestPasses snap.spec = true) (s : State) :
    configCompletes snap s = (s.configBuilt snap.spec).engineInit.finish := by
  unfold configCompletes
  rw [if_pos width]
  exact if_pos (of_decide_eq_true passes)

/-- Everything CONFIG can do at its completion (40_table_builder.md R135): it initialises the engine it has built, or
raises an error with the engine at 0. -/
theorem configCompletes_cases (snap : Snap) (s : State) :
    (widthLegal snap.spec.ctrl.width = true ∧ selftestPasses snap.spec = true ∧
      configCompletes snap s = (s.configBuilt snap.spec).engineInit.finish) ∨
    ∃ act table e, configCompletes snap s = State.raise e 0x01#8 { s.configStart with act := act, table := table } := by
  unfold configCompletes
  split
  · rename_i width
    dsimp only
    split
    · rename_i pass; exact .inl ⟨width, decide_eq_true pass, rfl⟩
    · exact .inr ⟨_, _, _, rfl⟩
  · exact .inr ⟨_, s.table, _, rfl⟩

/-- Settles O14: the spec passes, so CONFIG initialises the engine it has built. -/
theorem configBuildsAndInitialises : Obligations.ConfigBuildsAndInitialises := by
  intro s snap w a carried hw width ha pass
  have legal : widthLegal snap.spec.ctrl.width = true := by
    rw [width]
    rcases hw with rfl | rfl <;> rfl
  have hwidth : snap.spec.ctrl.width.toNat = w := by
    rw [width]
    rcases hw with rfl | rfl <;> rfl
  obtain rfl : a = Act.latch snap.spec := by
    rw [ha, Act.latch, hwidth]
    rfl
  refine ⟨(s.configBuilt snap.spec).engineInit.finish, ?_, tableAt_buildTable _, rfl⟩
  rw [exec_of_carried rfl rfl carried, completion, configCompletes_of_passes legal (decide_eq_true pass)]

/-! What CONFIG and LOAD_PRESET leave unchanged. -/

/-- However else the flags move, an error already recorded is kept (60_exceptions.md R255). -/
theorem FlagsMove.errFields_of_err {st st' : Status} (h : FlagsMove st st') (herr : st.err = true) :
    st'.errCode = st.errCode ∧ st'.errOp = st.errOp := by
  cases h with
  | keep => exact ⟨rfl, rfl⟩
  | record => rw [record_of_err herr]; exact ⟨rfl, rfl⟩

theorem FlagsMove.keepsError {s t : State} (h : FlagsMove s.status t.status) : KeepsError s t where
  err := h.err_of_err
  errCode herr := (h.errFields_of_err herr).1
  errOp herr := (h.errFields_of_err herr).2

/-- What CONFIG can write, on every path (40_table_builder.md R135). -/
theorem config_writes {s t : State} (h : exec .config s = .next t) :
    ∃ act table reg count status inflight free, FlagsMove s.status status ∧
      t = { s with act := act, table := table, reg := reg, count := count, status := status, inflight := inflight,
                   free := free } := by
  obtain ⟨snap, _, rfl⟩ | ⟨_, rfl⟩ := exec_cases rfl rfl h
  · have flags := (completes_config snap s).flags
    rw [completion]
    obtain ⟨_, _, hc⟩ | ⟨_, _, _, hc⟩ := configCompletes_cases snap s <;> rw [hc] at flags ⊢ <;>
      exact ⟨_, _, _, _, _, _, _, flags, rfl⟩
  · exact ⟨_, _, _, _, _, _, _, .recorded (e := .busyViolation) nofun 0x01#8 s.status, rfl⟩

/-- What LOAD_PRESET can write, on every path (40_table_builder.md R143). -/
theorem loadPreset_writes {s t : State} {p : Byte} (h : exec (.loadPreset p) s = .next t) :
    ∃ staging status inflight free, FlagsMove s.status status ∧ status.ready = s.status.ready ∧
      t = { s with staging := staging, status := status, inflight := inflight, free := free } := by
  obtain ⟨snap, _, rfl⟩ | ⟨_, rfl⟩ := exec_cases rfl rfl h
  · rw [completion]
    unfold loadPresetCompletes
    split
    · exact ⟨_, _, _, _, .record .badArg 0x08#8 nofun _ true fun _ => rfl, record_ready _ _ _, rfl⟩
    · exact ⟨_, _, _, _, .keep _ true fun _ => rfl, rfl, rfl⟩
  · exact ⟨_, _, _, _, .recorded (e := .busyViolation) nofun 0x08#8 s.status, record_ready _ _ _, rfl⟩

/-- Settles O43: what is not among the writes of the command is the same. -/
theorem builderFrame : Obligations.BuilderFrame := by
  refine ⟨fun s t h => ?config, fun s t p h => ?loadPreset⟩
  case config =>
    obtain ⟨_, _, _, _, _, _, _, flags, rfl⟩ := config_writes h
    exact ⟨⟨rfl, rfl, rfl, rfl, rfl, rfl⟩, ⟨rfl⟩, ⟨rfl, rfl, rfl, rfl, rfl⟩, ⟨rfl⟩, flags.keepsError⟩
  case loadPreset =>
    obtain ⟨_, _, _, _, flags, ready, rfl⟩ := loadPreset_writes h
    exact ⟨⟨rfl, rfl, rfl, rfl, rfl, rfl⟩, ⟨rfl, rfl⟩, ⟨rfl, rfl⟩, ⟨rfl, rfl, rfl, rfl, rfl⟩, ⟨rfl⟩, flags.keepsError,
      ready⟩

/-! The self-test. -/

/-- Settles O17: past the READY gate, the arm of the digest that is CHECK. -/
theorem selftestCompletes : Obligations.SelftestCompletes := by
  intro s snap carried ready pass
  have runs : selftestRuns s = s.finish := if_pos pass
  rw [exec_of_carried rfl rfl carried, completion, ifReady_of_ready ready, runs]
  rfl

/-! LOAD_PRESET. -/

/-- With no host write raced, LOAD_PRESET writes the whole preset (40_table_builder.md R143). -/
theorem loadPresetCompletes_of_unraced {p : Byte} {s : State} (hp : p.toNat ≤ 1) (h : Unraced s) :
    loadPresetCompletes p s = State.finish { s with staging := presetSpec p } := by
  rw [loadPresetCompletes, if_neg (Nat.not_lt.mpr hp), State.presetLands]
  simp only [landing_of_unraced _ _ (isRaced_of_unraced h _)]

theorem exec_loadPreset_of_unraced {p : Byte} {snap : Snap} {s : State} (carried : Carried 0x08#8 p snap s)
    (hp : p.toNat ≤ 1) (unraced : Unraced s) :
    exec (.loadPreset p) s = .next (State.finish { s with staging := presetSpec p }) := by
  rw [exec_of_carried rfl rfl carried, completion, loadPresetCompletes_of_unraced hp unraced]

/-- Settles O25: the staging registers hold the preset, and the CFG word is that of its fields. -/
theorem loadPresetWritesStaging : Obligations.LoadPresetWritesStaging := by
  constructor <;> intro s snap carried unraced <;>
    refine ⟨_, exec_loadPreset_of_unraced carried (by decide) unraced, ?_, rfl, rfl, rfl, rfl, rfl⟩
  · exact (by decide : (presetSpec 0#8).ctrl.word = 0x0000000000010120#64)
  · exact (by decide : (presetSpec 1#8).ctrl.word = 0x0000000000020140#64)

/-! The check string. -/

/-- The two UPDATEs of 40_table_builder.md R145 feed the check string. -/
theorem dinBytes_checkString : dinBytes 0x3837363534333231#64 8 ++ dinBytes 0x39#64 1 = checkString := by decide

/-- UPDATE of a legal NBYTES on an idle engine that is ready (41_engine.md R161). -/
theorem exec_update_of_idle {n : Byte} {s t : State} (idle : s.inflight = none) (ready : s.status.ready = true)
    (hn : n.toNat ≤ 8) (h : exec (.update n) s = .next t) : t = updateRuns n s.snapshot s := by
  rw [exec_of_carried rfl rfl (.inl ⟨idle, rfl⟩), completion, updateCompletes, if_neg (Nat.not_lt.mpr hn),
    ifReady_of_ready ready] at h
  cases h
  rfl

/-- A CONFIG that leaves READY = 1 has passed its self-test (40_table_builder.md R140). -/
theorem config_of_ready {s t : State} (idle : s.inflight = none) (h : exec .config s = .next t)
    (ready : t.status.ready = true) :
    selftestPasses s.staging = true ∧ t = (s.configBuilt s.staging).engineInit.finish := by
  rw [exec_of_carried rfl rfl (.inl ⟨idle, rfl⟩)] at h
  obtain rfl := Host.Outcome.next.inj h
  obtain ⟨_, passes, hc⟩ | ⟨act, table, e, hc⟩ := configCompletes_cases s.snapshot s
  · exact ⟨passes, hc⟩
  · rw [completion, hc] at ready
    simp at ready

/-- Settles O58: the UPDATEs run the bytes of the self-test from the same ACT.INIT on the same table. -/
theorem checkStringGivesCheck : Obligations.CheckStringGivesCheck := by
  intro s t u v idle hconfig ready hu hv
  obtain ⟨passes, rfl⟩ := config_of_ready idle hconfig ready
  obtain rfl := exec_update_of_idle rfl rfl (by decide) hu
  obtain rfl := exec_update_of_idle rfl rfl (by decide) hv
  refine ⟨?_, rfl, rfl⟩
  have digest : selftestDigest (Act.latch s.staging) (buildTable (Act.latch s.staging)) = (Act.latch s.staging).check :=
    of_decide_eq_true passes
  rw [selftestDigest, ← dinBytes_checkString, runBytes_append] at digest
  exact digest

end Sys2Proof.Machine
end

section
/-! PROOFS, family 41_engine.md: UPDATE (R161), streams of UPDATEs (R162), RESET (R163, R164), NOP (R165), and what the
commands that write no operand register leave unchanged. -/

namespace Sys2Proof.Machine

/-! What the completions compute. -/

/-- Settles O13: the completion of NOP is `State.finish`. -/
theorem nopCompletes : Obligations.NopCompletes :=
  fun _ _ carried => exec_of_carried rfl rfl carried

/-- RESET of an engine that is ready (41_engine.md R163). -/
theorem exec_reset_of_carried {snap : Snap} {s : State} (carried : Carried 0x02#8 0#8 snap s)
    (ready : s.status.ready = true) : exec .reset s = .next (resetRuns s) := by
  rw [exec_of_carried rfl rfl carried, completion, ifReady_of_ready ready]

/-- RESET on an idle engine that is ready (log 3). -/
theorem exec_reset_of_idle {s t : State} (idle : s.inflight = none) (ready : s.status.ready = true)
    (h : exec .reset s = .next t) : t = resetRuns s :=
  Host.Outcome.next.inj (h.symm.trans (exec_reset_of_carried (.inl ⟨idle, rfl⟩) ready))

/-- Settles O18: past the READY gate RESET writes REG and COUNT, and completes. -/
theorem resetCommandRestores : Obligations.ResetCommandRestores :=
  fun _ _ carried ready => exec_reset_of_carried carried ready

/-- UPDATE of a legal NBYTES on an engine that is ready (41_engine.md R161). -/
theorem exec_update_of_carried {n : Byte} {snap : Snap} {s : State} (carried : Carried 0x03#8 n snap s)
    (ready : s.status.ready = true) (hn : n.toNat ≤ 8) : exec (.update n) s = .next (updateRuns n snap s) := by
  rw [exec_of_carried rfl rfl carried, completion, updateCompletes, if_neg (Nat.not_lt.mpr hn), ifReady_of_ready ready]

/-- Byte k of DIN is what is left at the bottom after 8k bits have been shifted out (20_memory.md R75). -/
theorem dinByte_eq_shift (din : Word) (k : Nat) : dinByte din k = (din >>> (8 * k)).setWidth 8 := by
  refine BitVec.eq_of_getLsbD_eq fun i _ => ?_
  simp [dinByte]

/-- The first n bytes of DIN are the only list of n bytes that holds byte k at every place k. -/
theorem eq_dinBytes {din : Word} {n : Nat} {bytes : List Byte} (length : bytes.length = n)
    (byte : ∀ k, k < n → bytes[k]? = some (dinByte din k)) : bytes = dinBytes din n := by
  refine List.ext_getElem? fun k => ?_
  by_cases hk : k < n
  · rw [byte k hk]
    simp [dinBytes, hk]
  · rw [List.getElem?_eq_none (by omega), List.getElem?_eq_none (by rw [length_dinBytes]; omega)]

/-- COUNT grows by n modulo 2^64 (41_engine.md R161). -/
theorem count_add_eq_ofNat (count : Word) (n : Byte) :
    count + n.setWidth 64 = BitVec.ofNat 64 (count.toNat + n.toNat) := by
  rw [BitVec.ofNat_add, BitVec.ofNat_toNat, BitVec.setWidth_eq, BitVec.ofNat_toNat]

/-- Settles O19: UPDATE runs `dinBytes` of the operands, which are the bytes given. -/
theorem updateProcessesBytes : Obligations.UpdateProcessesBytes := by
  intro s snap n bytes carried ready hn length byte
  obtain rfl : bytes = dinBytes snap.din n.toNat :=
    eq_dinBytes length fun k hk => by rw [dinByte_eq_shift, byte k hk]
  rw [exec_update_of_carried carried ready hn, ← count_add_eq_ofNat]
  rfl

/-- Settles O57: two UPDATEs by `runBytes_append`, two RESETs by what each of them writes. -/
theorem streamProperties : Obligations.StreamProperties := by
  refine ⟨fun s t u m n din ready idle hm hn ht hu => ?updates, fun s t u ready idle ht hu => ?resets⟩
  case updates =>
    obtain rfl := exec_update_of_idle idle ready hm ht
    obtain rfl := exec_update_of_idle (s := { updateRuns m s.snapshot s with din := din }) rfl ready hn hu
    refine ⟨(runBytes_append _ _ _ _ _).symm, ?_⟩
    calc s.count + m.setWidth 64 + n.setWidth 64
      _ = BitVec.ofNat 64 (s.count.toNat + m.toNat) + n.setWidth 64 := by rw [count_add_eq_ofNat s.count m]
      _ = BitVec.ofNat 64 (s.count.toNat + m.toNat + n.toNat) := by
        rw [BitVec.ofNat_add _ n.toNat, BitVec.ofNat_toNat]
  case resets =>
    obtain rfl := exec_reset_of_idle idle ready ht
    obtain rfl := exec_reset_of_idle (s := resetRuns s) rfl ready hu
    exact ⟨rfl, rfl, rfl⟩

/-! The frame on every path. -/

/-- What a command that issues can do, on every path: its completion, or the refusal of its word (log 3). -/
theorem completes_or_refused {i : Instr} {op arg : Byte} {s t : State} (hi : opArg i = some (op, arg))
    (issues : i.issues = true) (h : exec i s = .next t) : Completes s i t ∨ t = s.record .busyViolation op := by
  obtain ⟨snap, _, rfl⟩ | ⟨_, rfl⟩ := exec_cases hi issues h
  · exact .inl (completes_completion issues snap s)
  · exact .inr rfl

section issued

variable {i : Instr} {op arg : Byte} {s t : State} (hi : opArg i = some (op, arg)) (issues : i.issues = true)
  (h : exec i s = .next t)
include hi issues h

/-- No command that issues overwrites an error already recorded (60_exceptions.md R255). -/
theorem keepsError_of_issues : KeepsError s t := by
  obtain hc | rfl := completes_or_refused hi issues h
  · exact hc.flags.keepsError
  · exact FlagsMove.keepsError (.recorded (e := .busyViolation) nofun op s.status)

/-- Of the commands that issue, CONFIG and SELFTEST alone write READY (10_state.md R27). -/
theorem ready_of_issues (hconfig : i ≠ .config) (hselftest : i ≠ .selftest) : t.status.ready = s.status.ready := by
  obtain hc | rfl := completes_or_refused hi issues h
  · obtain same | rfl | ⟨rfl, _⟩ := hc.ready
    · exact same
    · exact absurd rfl hconfig
    · exact absurd rfl hselftest
  · exact record_ready _ _ _

/-- Of the commands that issue, CONFIG, RESET and UPDATE alone write REG and COUNT (10_state.md R42, R56). -/
theorem engine_of_issues (hconfig : i ≠ .config) (hreset : i ≠ .reset) (hupdate : ∀ n, i ≠ .update n) :
    SameEngine s t := by
  obtain hc | rfl := completes_or_refused hi issues h
  · obtain same | rfl | rfl | ⟨n, rfl⟩ := hc.engine
    · exact same
    · exact absurd rfl hconfig
    · exact absurd rfl hreset
    · exact absurd rfl (hupdate n)
  · exact ⟨rfl, rfl⟩

end issued

/-- At most STATUS, REG and COUNT differ, besides the command in flight and the counter of free values. -/
def EngineWrites (s t : State) : Prop :=
  ∃ status reg count inflight free,
    t = { s with status := status, reg := reg, count := count, inflight := inflight, free := free }

namespace EngineWrites

variable {s t : State}

theorem frame (h : EngineWrites s t) :
    SameHost s t ∧ SameStaging s t ∧ SameActive s t ∧ SameOperands s t ∧ SameResult s t := by
  obtain ⟨_, _, _, _, _, rfl⟩ := h
  exact ⟨⟨rfl, rfl, rfl, rfl, rfl, rfl⟩, ⟨rfl⟩, ⟨rfl, rfl⟩, ⟨rfl, rfl, rfl, rfl, rfl⟩, ⟨rfl⟩⟩

theorem record (e : ErrCode) (op : Byte) (s : State) : EngineWrites s (s.record e op) := ⟨_, _, _, _, _, rfl⟩

theorem raise (e : ErrCode) (op : Byte) (s : State) : EngineWrites s (s.raise e op) := ⟨_, _, _, _, _, rfl⟩

theorem finish (s : State) : EngineWrites s s.finish := ⟨_, _, _, _, _, rfl⟩

theorem ifReady {op : Byte} {g : State → State} (h : EngineWrites s (g s)) : EngineWrites s (s.ifReady op g) := by
  obtain ⟨_, hg⟩ | ⟨_, hg⟩ := ifReady_cases op g s <;> rw [hg]
  · exact h
  · exact raise _ op s

theorem resetRuns (s : State) : EngineWrites s (resetRuns s) := ⟨_, _, _, _, _, rfl⟩

theorem updateRuns (n : Byte) (snap : Snap) (s : State) : EngineWrites s (updateRuns n snap s) :=
  ⟨_, _, _, _, _, rfl⟩

theorem updateCompletes (n : Byte) (snap : Snap) (s : State) : EngineWrites s (updateCompletes n snap s) := by
  unfold Machine.updateCompletes
  split
  · exact raise _ _ s
  · exact .ifReady (updateRuns n snap s)

theorem selftestRuns (s : State) : EngineWrites s (selftestRuns s) := by
  unfold Machine.selftestRuns
  split
  · exact finish s
  · exact ⟨_, _, _, _, _, rfl⟩

/-- A command of which every completion writes no more, writes no more on any path. -/
theorem of_completion {i : Instr} {op arg : Byte} (hi : opArg i = some (op, arg)) (issues : i.issues = true)
    (completes : ∀ snap, EngineWrites s (completion i snap s)) (h : exec i s = .next t) : EngineWrites s t := by
  obtain ⟨snap, _, rfl⟩ | ⟨_, rfl⟩ := exec_cases hi issues h
  · exact completes snap
  · exact record _ op s

end EngineWrites

/-- CLEAR records the refusal of its word, or clears the flags (43_host_access.md R222). -/
theorem exec_clear_cases {s t : State} (h : exec .clear s = .next t) :
    t = s.record .busyViolation 0x09#8 ∨ t = s.clearSticky := by
  obtain rfl := Host.Outcome.next.inj h
  split
  · exact .inl rfl
  · exact .inr rfl

/-- CLEAR writes the flags but READY, and nothing else (43_host_access.md R222). -/
theorem exec_clear_frame {s t : State} (h : exec .clear s = .next t) :
    EngineWrites s t ∧ SameEngine s t ∧ t.status.ready = s.status.ready := by
  obtain rfl | rfl := exec_clear_cases h
  · exact ⟨.record _ _ s, ⟨rfl, rfl⟩, record_ready _ _ _⟩
  · exact ⟨⟨_, _, _, _, _, rfl⟩, ⟨rfl, rfl⟩, rfl⟩

/-- Settles O41: the registers by `EngineWrites`, STATUS by how the commands that issue move it. -/
theorem engineCommandFrame : Obligations.EngineCommandFrame := by
  refine ⟨fun s t n h => ?engine, fun s t h => ?statusOnly, fun s t h => ?ready, fun s t h => ?keeps⟩
  case engine =>
    have writes : EngineWrites s t := h.elim (.of_completion rfl rfl (.updateCompletes n · s))
      (.of_completion rfl rfl fun _ => .ifReady (.resetRuns s))
    have keeps : KeepsError s t := h.elim (keepsError_of_issues rfl rfl) (keepsError_of_issues rfl rfl)
    have ready : t.status.ready = s.status.ready :=
      h.elim (ready_of_issues rfl rfl · nofun nofun) (ready_of_issues rfl rfl · nofun nofun)
    obtain ⟨host, staging, active, operands, result⟩ := writes.frame
    exact ⟨host, staging, active, operands, result, keeps, ready⟩
  case statusOnly =>
    obtain ⟨writes, engine⟩ : EngineWrites s t ∧ SameEngine s t := by
      obtain h | h | h := h
      · exact ⟨.of_completion (i := .nop) rfl rfl (fun _ => .finish s) h,
          engine_of_issues rfl rfl h nofun nofun nofun⟩
      · exact ⟨.of_completion (i := .selftest) rfl rfl (fun _ => .ifReady (.selftestRuns s)) h,
          engine_of_issues rfl rfl h nofun nofun nofun⟩
      · obtain ⟨writes, engine, _⟩ := exec_clear_frame h
        exact ⟨writes, engine⟩
    obtain ⟨host, staging, active, operands, result⟩ := writes.frame
    exact ⟨host, staging, active, engine, operands, result⟩
  case ready =>
    obtain h | h := h
    · exact ready_of_issues rfl rfl h nofun nofun
    · obtain ⟨_, _, ready⟩ := exec_clear_frame h
      exact ready
  case keeps => exact h.elim (keepsError_of_issues rfl rfl) (keepsError_of_issues rfl rfl)

end Sys2Proof.Machine
end

section
/-! PROOFS, family 42_combiner.md: runs of the byte step over GF(2) (R194, R199), the combination of two digests (R195 to
R198), and what CAPTURE_A, CAPTURE_B and COMBINE write and leave unchanged (R191, R193, R196). -/

namespace Sys2Proof.Machine

/-! Maps of words linear over GF(2). -/

/-- `f` is linear over GF(2): it takes XOR to XOR (42_combiner.md R194, R199). -/
def XorLinear (f : Word → Word) : Prop := ∀ u v, f (u ^^^ v) = f u ^^^ f v

theorem XorLinear.map_zero {f : Word → Word} (hf : XorLinear f) : f 0#64 = 0#64 := by
  have twice := hf 0#64 0#64
  rwa [BitVec.xor_self, BitVec.xor_self] at twice

theorem XorLinear.comp_shiftLeft {f : Word → Word} (hf : XorLinear f) (n : Nat) : XorLinear (fun v => f (v <<< n)) := by
  intro u v
  dsimp only
  rw [BitVec.shiftLeft_xor_distrib, hf]

/-! Runs of the byte step: the raw value and the bytes superpose. -/

theorem leadByte_xor (a : Act) (r s : Word) : leadByte a (r ^^^ s) = leadByte a r ^^^ leadByte a s := by
  unfold leadByte
  split
  · exact BitVec.setWidth_xor
  · rw [BitVec.ushiftRight_xor_distrib, BitVec.setWidth_xor]

/-- The byte step is linear in the raw value and the byte together (42_combiner.md R194). -/
theorem stepByte_xor (a : Act) (r s : Word) (b c : Byte) : stepByte a (buildTable a) (r ^^^ s) (b ^^^ c) =
    stepByte a (buildTable a) r b ^^^ stepByte a (buildTable a) s c := by
  simp only [stepByte_buildTable, leadByte_xor, tblEntry_xor, shiftOut_xor]
  ac_rfl

/-- What is XORed into the raw value goes through the step as if the byte were 0. -/
theorem stepByte_xor_left (a : Act) (r s : Word) (b : Byte) : stepByte a (buildTable a) (r ^^^ s) b =
    zeroByte a (buildTable a) r ^^^ stepByte a (buildTable a) s b := by
  have step := stepByte_xor a r s 0#8 b
  rwa [BitVec.zero_xor] at step

theorem xorLinear_zeroByte (a : Act) : XorLinear (zeroByte a (buildTable a)) :=
  fun u v => stepByte_xor_left a u v 0#8

theorem runBytes_xor (a : Act) (r s : Word) (bytes : List Byte) : runBytes a (buildTable a) (r ^^^ s) bytes =
    (zeroByte a (buildTable a))^[bytes.length] r ^^^ runBytes a (buildTable a) s bytes := by
  induction bytes generalizing r s with
  | nil => rfl
  | cons b bs ih =>
    calc runBytes a (buildTable a) (stepByte a (buildTable a) (r ^^^ s) b) bs
      _ = runBytes a (buildTable a) (zeroByte a (buildTable a) r ^^^ stepByte a (buildTable a) s b) bs := by
        rw [stepByte_xor_left]
      _ = _ := ih _ _

/-- Settles O54: what superposes with the run from 0 is r through as many zero bytes. -/
theorem affineLaw : Obligations.AffineLaw := by
  intro a r bytes _ _
  rw [← runBytes_xor, BitVec.xor_zero]

/-! Matrices over GF(2), and square and multiply. -/

theorem xorLinear_gf2Apply (m : List Word) : XorLinear (gf2Apply m) := by
  intro u v
  induction m generalizing u v with
  | nil => exact (BitVec.xor_self (x := 0#64)).symm
  | cons c cs ih =>
    rw [gf2Apply, gf2Apply, gf2Apply, BitVec.getLsbD_xor, ite_xor, BitVec.ushiftRight_xor_distrib, ih]
    ac_rfl

/-- A matrix whose columns are each taken through a linear map is the matrix, then the map. -/
theorem gf2Apply_map {f : Word → Word} (hf : XorLinear f) (m : List Word) (v : Word) :
    gf2Apply (m.map f) v = f (gf2Apply m v) := by
  induction m generalizing v with
  | nil => exact hf.map_zero.symm
  | cons c cs ih =>
    rw [List.map_cons, gf2Apply, gf2Apply, hf, ih]
    split
    · rfl
    · rw [hf.map_zero]

/-- The matrix squared is the matrix twice (42_combiner.md R199). -/
theorem gf2Apply_gf2Square (m : List Word) (v : Word) : gf2Apply (gf2Square m) v = gf2Apply m (gf2Apply m v) :=
  gf2Apply_map (xorLinear_gf2Apply m) m v

/-- Square and multiply applies the matrix n times, for every n that the bits hold (42_combiner.md R199). -/
theorem gf2PowApply_eq_iterate {bits n : Nat} (hn : n < 2 ^ bits) (m : List Word) (v : Word) :
    gf2PowApply bits m n v = (gf2Apply m)^[n] v := by
  induction bits generalizing m n v with
  | zero =>
    obtain rfl : n = 0 := Nat.lt_one_iff.mp hn
    rfl
  | succ bits ih =>
    have half : n / 2 < 2 ^ bits := by omega
    have square : gf2Apply (gf2Square m) = (gf2Apply m)^[2] := funext (gf2Apply_gf2Square m)
    have odd : (if n % 2 = 1 then gf2Apply m v else v) = (gf2Apply m)^[n % 2] v := by
      obtain h | h := Nat.mod_two_eq_zero_or_one n <;> simp [h]
    unfold gf2PowApply
    split
    · rename_i zero; rw [zero]; rfl
    · rw [ih half, square, odd, ← Function.iterate_mul, ← Function.iterate_add_apply, Nat.div_add_mod]

/-- A value is its bit 0 and the rest. -/
theorem bitZero_xor_rest (v : Word) : (if v.getLsbD 0 then 1#64 else 0#64) ^^^ (v >>> 1) <<< 1 = v := by
  refine BitVec.eq_of_getLsbD_eq fun i hi => ?_
  cases i with
  | zero => cases v.getLsbD 0 <;> simp
  | succ i =>
    have high : (if v.getLsbD 0 then 1#64 else 0#64).getLsbD (i + 1) = false := by split <;> simp
    rw [BitVec.getLsbD_xor, high]
    simp [hi, Nat.add_comm 1 i]

/-- Without its bit 0, a value has one bit less. -/
theorem fits_rest {w : Nat} (hw : w + 1 ≤ 64) {v : Word} (hv : Fits (w + 1) v) : Fits w (v >>> 1) := by
  rw [fits_iff (by omega)] at hv ⊢
  intro i hi
  rw [BitVec.getLsbD_ushiftRight, hv (1 + i) (by omega)]

/-- The matrix of a linear map, column j its value at `1 << j`, is the map on the values its columns cover
(42_combiner.md R199). -/
theorem gf2Apply_columns {f : Word → Word} (hf : XorLinear f) {w : Nat} (hw : w ≤ 64) {v : Word} (hv : Fits w v) :
    gf2Apply ((List.range w).map (fun j => f (1#64 <<< j))) v = f v := by
  induction w generalizing f v with
  | zero =>
    obtain rfl : v = 0#64 := by rw [← hv]; exact BitVec.and_zero
    exact hf.map_zero.symm
  | succ w ih =>
    have columns : (List.range (w + 1)).map (fun j => f (1#64 <<< j)) =
        f 1#64 :: (List.range w).map (fun j => f ((1#64 <<< j : Word) <<< 1)) := by
      simp [List.range_succ_eq_map, Function.comp_def, BitVec.shiftLeft_add]
    calc gf2Apply ((List.range (w + 1)).map (fun j => f (1#64 <<< j))) v
      _ = (if v.getLsbD 0 then f 1#64 else 0#64) ^^^ f ((v >>> 1) <<< 1) := by
        rw [columns, gf2Apply, ih (hf.comp_shiftLeft 1) (by omega) (fits_rest hw hv)]
      _ = f ((if v.getLsbD 0 then 1#64 else 0#64) ^^^ (v >>> 1) <<< 1) := by
        rw [hf, apply_ite f, hf.map_zero]
      _ = f v := by rw [bitZero_xor_rest]

theorem fits_zeroByte {a : Act} (ha : ActLegal a) {v : Word} (hv : Fits a.w v) :
    Fits a.w (zeroByte a (buildTable a) v) := fits_stepByte ha hv 0#8

/-- Z is the matrix of `zero_byte` on W-bit values (42_combiner.md R199). -/
theorem gf2Apply_zeroMatrix {a : Act} (ha : ActLegal a) {v : Word} (hv : Fits a.w v) :
    gf2Apply (zeroMatrix a (buildTable a)) v = zeroByte a (buildTable a) v :=
  gf2Apply_columns (xorLinear_zeroByte a) ha.w_le hv

theorem gf2Apply_zeroMatrix_iterate {a : Act} (ha : ActLegal a) {v : Word} (hv : Fits a.w v) (n : Nat) :
    (gf2Apply (zeroMatrix a (buildTable a)))^[n] v = (zeroByte a (buildTable a))^[n] v := by
  induction n generalizing v with
  | zero => rfl
  | succ n ih =>
    rw [Function.iterate_succ_apply, Function.iterate_succ_apply, gf2Apply_zeroMatrix ha hv, ih (fits_zeroByte ha hv)]

theorem zeroBytes_eq_iterate {a : Act} (ha : ActLegal a) (n : Word) {v : Word} (hv : Fits a.w v) :
    zeroBytes a (buildTable a) n v = (zeroByte a (buildTable a))^[n.toNat] v := by
  rw [zeroBytes, gf2PowApply_eq_iterate n.isLt, gf2Apply_zeroMatrix_iterate ha hv]

/-- Settles O55: square and multiply is iteration of the matrix, which is that of `zero_byte`. -/
theorem squaringIsIteration : Obligations.SquaringIsIteration :=
  fun _ n _ ha hv => zeroBytes_eq_iterate ha n hv

/-! The combine function. -/

theorem comb_zero (a : Act) (t : Vector Word 256) (x y : Word) : comb a t x y 0#64 = x := if_pos rfl

theorem comb_of_ne_zero {n : Word} (hn : n ≠ 0#64) (a : Act) (t : Vector Word 256) (x y : Word) :
    comb a t x y n = fin a (zeroBytes a t n (unfin a x ^^^ a.init) ^^^ unfin a y) := if_neg hn

/-- Settles O56: with INIT XORed out of the first raw value, the two runs superpose into the run of the second from the
first. -/
theorem combineIsConcatenation : Obligations.CombineIsConcatenation := by
  intro a s1 s2 ha hlen digest
  have length : (BitVec.ofNat 64 s2.length).toNat = s2.length := Nat.mod_eq_of_lt hlen
  by_cases zero : BitVec.ofNat 64 s2.length = 0#64
  · obtain rfl : s2 = [] := List.length_eq_zero_iff.mp (by rw [← length, zero]; rfl)
    rw [zero, comb_zero, List.append_nil]
  · have first : Fits a.w (runBytes a (buildTable a) a.init s1) := fits_runBytes ha ha.init s1
    have second : Fits a.w (runBytes a (buildTable a) a.init s2) := fits_runBytes ha ha.init s2
    rw [comb_of_ne_zero zero, unfin_fin ha first, unfin_fin ha second,
      zeroBytes_eq_iterate ha _ (fits_xor first ha.init), length, ← runBytes_xor, xor_cancel_right, ← runBytes_append]

/-! What the commands compute. -/

/-- CAPTURE_A that no host write races (42_combiner.md R191). -/
theorem captureARuns_of_unraced {s : State} (h : Unraced s) : captureARuns s =
    State.finish { s with cmbA := fin s.act s.reg, tagA := s.act.ctrl.specId } := by
  rw [captureARuns, landing_of_unraced _ _ (isRaced_of_unraced h _), landing_of_unraced _ _ (isRaced_of_unraced h _)]

/-- CAPTURE_B that no host write races (42_combiner.md R193). -/
theorem captureBRuns_of_unraced {s : State} (h : Unraced s) : captureBRuns s =
    State.finish { s with cmbB := fin s.act s.reg, tagB := s.act.ctrl.specId, cmbLen := s.count } := by
  rw [captureBRuns, landing_of_unraced _ _ (isRaced_of_unraced h _), landing_of_unraced _ _ (isRaced_of_unraced h _),
    landing_of_unraced _ _ (isRaced_of_unraced h _)]

/-- Settles O20: past the READY gate each register lands the value the command writes. -/
theorem capturesCopyDigest : Obligations.CapturesCopyDigest := by
  constructor <;> intro s snap carried ready unraced
  all_goals rw [exec_of_carried rfl rfl carried, completion, ifReady_of_ready ready]
  · rw [captureARuns_of_unraced unraced]; rfl
  · rw [captureBRuns_of_unraced unraced]; rfl

/-- COMBINE on an engine that is ready, under two tags that match (42_combiner.md R196). -/
theorem exec_combine_of_tags {snap : Snap} {s : State} (carried : Carried 0x06#8 0#8 snap s)
    (ready : s.status.ready = true) (tagA : snap.tagA = s.act.ctrl.specId) (tagB : snap.tagB = s.act.ctrl.specId) :
    exec .combine s = .next (State.finish { s with
      cmbResult := comb s.act s.table (snap.cmbA &&& mask s.act.w) (snap.cmbB &&& mask s.act.w) snap.cmbLen }) := by
  rw [exec_of_carried rfl rfl carried, completion, ifReady_of_ready ready, combineRuns, if_pos ⟨tagA, tagB⟩]

/-- Settles O22: the formula of `comb` at a length above 0. -/
theorem combineComputes : Obligations.CombineComputes := by
  intro s snap carried ready tagA tagB length
  rw [exec_combine_of_tags carried ready tagA tagB, comb_of_ne_zero length]
  rfl

/-- Settles O23: `comb` at length 0; in the general formula the empty digest takes INIT out again. -/
theorem combineZeroLength : Obligations.CombineZeroLength := by
  refine ⟨fun s snap carried ready tagA tagB length => ?_, fun a x ha hx => ?_⟩
  · rw [exec_combine_of_tags carried ready tagA tagB, length, comb_zero]
    rfl
  · rw [unfin_fin ha ha.init, xor_cancel_right, fin_unfin ha hx]

/-! What the commands leave unchanged. -/

/-- A command behind the READY gate runs, or on any other path (NOT_READY, BUSY_VIOLATION) changes STATUS alone. -/
theorem exec_gated_cases {i : Instr} {op arg : Byte} {run : Snap → State → State} {s t : State}
    (hi : opArg i = some (op, arg)) (issues : i.issues = true)
    (gated : ∀ snap, completion i snap = State.ifReady op (run snap)) (h : exec i s = .next t) :
    (∃ snap, t = run snap s) ∨
      ∃ status inflight free, t = { s with status := status, inflight := inflight, free := free } := by
  obtain ⟨snap, _, rfl⟩ | ⟨_, rfl⟩ := exec_cases hi issues h
  · rw [gated]
    obtain ⟨_, hg⟩ | ⟨_, hg⟩ := ifReady_cases op (run snap) s <;> rw [hg]
    · exact .inl ⟨snap, rfl⟩
    · exact .inr ⟨_, _, _, rfl⟩
  · exact .inr ⟨_, _, _, rfl⟩

/-- What CAPTURE_A can write, on every path (42_combiner.md R191). -/
theorem captureA_writes {s t : State} (h : exec .captureA s = .next t) : ∃ cmbA tagA status inflight free,
    t = { s with cmbA := cmbA, tagA := tagA, status := status, inflight := inflight, free := free } := by
  obtain ⟨_, rfl⟩ | ⟨_, _, _, rfl⟩ := exec_gated_cases (run := fun _ => captureARuns) rfl rfl (fun _ => rfl) h
  · exact ⟨_, _, _, _, _, rfl⟩
  · exact ⟨_, _, _, _, _, rfl⟩

/-- What CAPTURE_B can write, on every path (42_combiner.md R193). -/
theorem captureB_writes {s t : State} (h : exec .captureB s = .next t) : ∃ cmbB tagB cmbLen status inflight free,
    t = { s with cmbB := cmbB, tagB := tagB, cmbLen := cmbLen, status := status, inflight := inflight,
                 free := free } := by
  obtain ⟨_, rfl⟩ | ⟨_, _, _, rfl⟩ := exec_gated_cases (run := fun _ => captureBRuns) rfl rfl (fun _ => rfl) h
  · exact ⟨_, _, _, _, _, _, rfl⟩
  · exact ⟨_, _, _, _, _, _, rfl⟩

/-- What COMBINE can write, on every path (42_combiner.md R196). -/
theorem combine_writes {s t : State} (h : exec .combine s = .next t) : ∃ cmbResult status inflight free,
    t = { s with cmbResult := cmbResult, status := status, inflight := inflight, free := free } := by
  obtain ⟨snap, rfl⟩ | ⟨_, _, _, rfl⟩ := exec_gated_cases (run := combineRuns) rfl rfl (fun _ => rfl) h
  · unfold combineRuns
    split
    · exact ⟨_, _, _, _, rfl⟩
    · exact ⟨_, _, _, _, rfl⟩
  · exact ⟨_, _, _, _, rfl⟩

/-- At most STATUS and the combiner's registers differ, besides the command in flight and the counter of free values. -/
def CombinerWrites (s t : State) : Prop :=
  ∃ cmbA cmbB cmbLen tagA tagB cmbResult status inflight free,
    t = { s with cmbA := cmbA, cmbB := cmbB, cmbLen := cmbLen, tagA := tagA, tagB := tagB, cmbResult := cmbResult,
                 status := status, inflight := inflight, free := free }

theorem CombinerWrites.frame {s t : State} (h : CombinerWrites s t) :
    SameHost s t ∧ SameStaging s t ∧ SameActive s t ∧ SameEngine s t := by
  obtain ⟨_, _, _, _, _, _, _, _, _, rfl⟩ := h
  exact ⟨⟨rfl, rfl, rfl, rfl, rfl, rfl⟩, ⟨rfl⟩, ⟨rfl, rfl⟩, ⟨rfl, rfl⟩⟩

/-- Settles O42: the registers by what each command can write, STATUS by how the commands that issue move it. -/
theorem combinerFrame : Obligations.CombinerFrame := by
  refine ⟨fun s t h => ?common, fun s t h => ?captureA, fun s t h => ?captureB, fun s t h => ?combine⟩
  case common =>
    have keeps : KeepsError s t := by obtain h | h | h := h <;> exact keepsError_of_issues rfl rfl h
    have ready : t.status.ready = s.status.ready := by
      obtain h | h | h := h <;> exact ready_of_issues rfl rfl h nofun nofun
    have writes : CombinerWrites s t := by
      obtain h | h | h := h
      · obtain ⟨_, _, _, _, _, rfl⟩ := captureA_writes h
        exact ⟨_, _, _, _, _, _, _, _, _, rfl⟩
      · obtain ⟨_, _, _, _, _, _, rfl⟩ := captureB_writes h
        exact ⟨_, _, _, _, _, _, _, _, _, rfl⟩
      · obtain ⟨_, _, _, _, rfl⟩ := combine_writes h
        exact ⟨_, _, _, _, _, _, _, _, _, rfl⟩
    obtain ⟨host, staging, active, engine⟩ := writes.frame
    exact ⟨host, staging, active, engine, keeps, ready⟩
  case captureA =>
    obtain ⟨_, _, _, _, _, rfl⟩ := captureA_writes h
    exact ⟨⟨rfl⟩, rfl, rfl, rfl⟩
  case captureB =>
    obtain ⟨_, _, _, _, _, _, rfl⟩ := captureB_writes h
    exact ⟨⟨rfl⟩, rfl, rfl⟩
  case combine =>
    obtain ⟨_, _, _, _, rfl⟩ := combine_writes h
    exact ⟨rfl, rfl, rfl, rfl, rfl⟩

end Sys2Proof.Machine
end

section
/-! PROOFS, family 43_host_access.md: RD (R220, R225), WR (R221, R223), CLEAR (R222), the CMD write (R224), and exec of
a command away from its completion (log 3). -/

namespace Sys2Proof.Machine

/-! Accesses by offset. -/

/-- A write at a register's offset is the write of that register, answered (43_host_access.md R221). -/
theorem exec_wr_offset (r : RegName) (v : Word) (s : State) :
    exec (.wr r.offset v) s = .next ((s.writeReg r v).respond .written) := by simp [exec, execWr]

theorem exec_rd_reserved {addr : BitVec 12} (aligned : addr.toNat % 8 = 0) (reserved : 0x0C8 ≤ addr.toNat) (s : State) :
    exec (.rd addr) s = .next (s.respond (.read 0#64)) := by simp [exec, execRd, aligned, regAt_reserved reserved]

theorem exec_wr_reserved {addr : BitVec 12} (aligned : addr.toNat % 8 = 0) (reserved : 0x0C8 ≤ addr.toNat) (v : Word)
    (s : State) : exec (.wr addr v) s = .next (s.respond .written) := by
  simp [exec, execWr, aligned, regAt_reserved reserved]

/-- A read of a register whose value is specified answers that value (43_host_access.md R220). -/
theorem exec_rd_of_specified {r : RegName} {s : State} (h : s.readUnspecified r = false) :
    exec (.rd r.offset) s = .next (s.respond (.read (s.regValue r))) := by
  rw [exec_rd_offset, readReg_of_specified h]

/-! CMD reads 0. -/

/-- No command in flight makes ID, IRQ_EN, STATUS or CMD hazardous (70_reset_and_hazards.md R297). -/
theorem not_mem_hazardReads (op : Byte) : ∀ r ∈ [RegName.id, .irqEn, .status, .cmd], r ∉ hazardReads op := by
  unfold hazardReads
  repeat' split
  all_goals decide

/-- A register that no command makes hazardous reads exactly, whatever is in flight. -/
theorem readUnspecified_of_not_mem {r : RegName} (h : ∀ op, r ∉ hazardReads op) (s : State) :
    s.readUnspecified r = false := by
  unfold State.readUnspecified
  split
  · rfl
  · exact decide_eq_false (h _)

/-- Settles O31: no command in flight makes CMD hazardous, and its value is 0. -/
theorem cmdReadsZero : Obligations.CmdReadsZero := fun s =>
  exec_rd_of_specified (r := .cmd) (readUnspecified_of_not_mem (fun op => not_mem_hazardReads op _ (by decide)) s)

/-! Writes that are ignored. -/

/-- A write of a register that no command writes races nothing (70_reset_and_hazards.md R298). -/
theorem noteRace_of_not_mem {r : RegName} (h : ∀ op, r ∉ hazardWrites op) (s : State) : s.noteRace r = s := by
  unfold State.noteRace
  split
  · rfl
  · exact if_neg fun race => h _ race.1

/-- The read-only registers (43_host_access.md R223). -/
def readOnly : List RegName :=
  [.id, .status, .raw, .digest, .count, .cmbResult, .tblData, .actCfg, .actPoly, .actInit, .actXorout, .actCheck]

theorem readOnly_not_mem_hazardWrites (op : Byte) : ∀ r ∈ readOnly, r ∉ hazardWrites op := by
  unfold hazardWrites
  repeat' split
  all_goals decide

theorem storeReg_of_readOnly {r : RegName} (h : r ∈ readOnly) (v : Word) (s : State) : s.storeReg r v = s := by
  cases r
  case irqEn | cfg | poly | init | xorout | check | din | cmbA | cmbB | cmbLen | cmbTag | tblIndex =>
    exact absurd h (by decide)
  all_goals rfl

/-- A write of a read-only register does nothing (43_host_access.md R223). -/
theorem writeReg_of_readOnly {r : RegName} (h : r ∈ readOnly) (v : Word) (s : State) : s.writeReg r v = s := by
  have notCmd : r ≠ .cmd := by rintro rfl; exact absurd h (by decide)
  rw [State.writeReg, if_neg notCmd, storeReg_of_readOnly h,
    noteRace_of_not_mem fun op => readOnly_not_mem_hazardWrites op r h]

/-- Settles O35: the listed offsets are those of the read-only registers. -/
theorem readOnlyWriteIsIgnored : Obligations.ReadOnlyWriteIsIgnored := by
  refine ⟨fun s r addr v h => ?_, fun s addr v aligned reserved => exec_wr_reserved aligned reserved v s⟩
  obtain ⟨hr, rfl⟩ : r ∈ readOnly ∧ r.offset = addr := by
    refine (?rows : ∀ p : RegName × BitVec 12, p ∈ _ → p.1 ∈ readOnly ∧ p.1.offset = p.2) _ h
    decide
  rw [exec_wr_offset, writeReg_of_readOnly hr]
  rfl

/-! The layouts of the registers made of fields. -/

/-- Bit i of CFG and of ACT_CFG, field by field (10_state.md R34, R49). -/
theorem getLsbD_ctrlWord (c : Ctrl) (i : Nat) : c.word.getLsbD i =
    ((decide (16 ≤ i) && c.specId.getLsbD (i - 16)) || (decide (i = 9) && c.refout) || (decide (i = 8) && c.refin) ||
      c.width.getLsbD i) := by
  have width : (c.width.setWidth 64).getLsbD i = c.width.getLsbD i := by
    simpa using getLsbD_field c.width (k := 0) (by decide) i
  simp only [Ctrl.word, BitVec.getLsbD_or, getLsbD_field c.specId (k := 16) (by decide),
    getLsbD_flag _ (k := 9) (by decide), getLsbD_flag _ (k := 8) (by decide), width]

/-- A field of a register, from its bits. -/
theorem extractLsb'_of_bits {v : Word} {k n : Nat} {x : BitVec n} (h : ∀ j, j < n → v.getLsbD (k + j) = x.getLsbD j) :
    v.extractLsb' k n = x := by
  refine BitVec.eq_of_getLsbD_eq fun j hj => ?_
  rw [BitVec.getLsbD_extractLsb', decide_eq_true hj, Bool.true_and, h j hj]

/-- The layout of CFG and of ACT_CFG (10_state.md R34, R49). -/
theorem ctrlWord_layout (c : Ctrl) : c.word.extractLsb' 0 8 = c.width ∧ c.word.getLsbD 8 = c.refin ∧
    c.word.getLsbD 9 = c.refout ∧ c.word.extractLsb' 10 6 = 0#6 ∧ c.word.extractLsb' 16 8 = c.specId ∧
    c.word.extractLsb' 24 40 = 0#40 := by
  have noWidth : ∀ i, 8 ≤ i → c.width.getLsbD i = false := fun i => BitVec.getLsbD_of_ge c.width i
  refine ⟨extractLsb'_of_bits fun j hj => ?width, ?refin, ?refout, extractLsb'_of_bits fun j hj => ?low,
    extractLsb'_of_bits fun j hj => ?specId, extractLsb'_of_bits fun j hj => ?high⟩ <;> rw [getLsbD_ctrlWord]
  case width => simp [show ¬ 16 ≤ j by omega, show j ≠ 9 by omega, show j ≠ 8 by omega]
  case refin => simp
  case refout => simp
  case low =>
    simp [noWidth (10 + j) (by omega), show ¬ 16 ≤ 10 + j by omega, show 10 + j ≠ 9 by omega,
      show 10 + j ≠ 8 by omega]
  case specId => simp [noWidth (16 + j) (by omega), show 16 + j ≠ 9 by omega, show 16 + j ≠ 8 by omega]
  case high =>
    simp [noWidth (24 + j) (by omega), show 24 + j ≠ 9 by omega, show 24 + j ≠ 8 by omega,
      BitVec.getLsbD_of_ge c.specId (24 + j - 16) (by omega)]

/-- The layout of IRQ_EN (10_state.md R24). -/
theorem irqEnWord_layout (e : IrqEn) :
    e.word.getLsbD 0 = e.doneIe ∧ e.word.getLsbD 1 = e.errIe ∧ e.word.extractLsb' 2 62 = 0#62 := by
  rcases e with ⟨_ | _, _ | _⟩ <;> decide

/-- The layout of CMB_TAG (10_state.md R46): its fields stand where OPCODE and ARG stand in a command word. -/
theorem tagWord_layout (tagA tagB : Byte) : (tagWord tagA tagB).extractLsb' 0 8 = tagA ∧
    (tagWord tagA tagB).extractLsb' 8 8 = tagB ∧ (tagWord tagA tagB).extractLsb' 16 48 = 0#48 :=
  ⟨opcodeOf_commandWord tagA tagB, argOf_commandWord tagA tagB, rsvdOf_commandWord tagA tagB⟩

/-- The layout of TBL_INDEX (10_state.md R54). -/
theorem tblIndexWord_layout (i : Byte) :
    (i.setWidth 64).extractLsb' 0 8 = i ∧ (i.setWidth 64).extractLsb' 8 56 = 0#56 := by
  refine ⟨extractLsb'_of_bits fun j hj => ?_, extractLsb'_of_bits fun j hj => ?_⟩
  · simp [show j < 64 by omega]
  · simp

/-- Settles O30: the map is that of `RegName.offset`; a register's value is a field of the state, or by its layout. -/
theorem readReturnsRegister : Obligations.ReadReturnsRegister := by
  unfold Obligations.ReadReturnsRegister
  intro map
  have offsets : ∀ p ∈ map, p.1.offset = p.2 := by decide
  refine ⟨fun r => by cases r <;> decide, fun s r addr hmem specified => ?_,
    fun s addr aligned reserved => exec_rd_reserved aligned reserved s, fun s => ?_⟩
  · obtain rfl : r.offset = addr := offsets _ hmem
    exact exec_rd_of_specified specified
  · obtain ⟨width, refin, refout, low, specId, high⟩ := ctrlWord_layout s.staging.ctrl
    obtain ⟨actWidth, actRefin, actRefout, actLow, actSpecId, actHigh⟩ := ctrlWord_layout s.act.ctrl
    obtain ⟨doneIe, errIe, irqEnHigh⟩ := irqEnWord_layout s.irqEn
    obtain ⟨tagA, tagB, tagHigh⟩ := tagWord_layout s.tagA s.tagB
    obtain ⟨tblIndex, tblIndexHigh⟩ := tblIndexWord_layout s.tblIndex
    exact ⟨rfl, rfl, fun ready => ⟨if_pos ready, if_pos ready⟩,
      fun notReady => ⟨by simp [State.regValue, notReady], by simp [State.regValue, notReady]⟩, rfl, rfl,
      doneIe, errIe, irqEnHigh, width, refin, refout, low, specId, high, rfl, rfl, rfl, rfl, rfl, rfl, rfl, rfl,
      tagA, tagB, tagHigh, rfl, tblIndex, tblIndexHigh, actWidth, actRefin, actRefout, actLow, actSpecId, actHigh,
      rfl, rfl, rfl, rfl⟩

/-! Registers that store. -/

/-- A field of a word, where it stands in the word, is the word under the field's mask. -/
theorem field_of_word (v : Word) {k w : Nat} (hk : k + w ≤ 64) :
    (v.extractLsb' k w).setWidth 64 <<< k = v &&& ((BitVec.allOnes w).setWidth 64 <<< k) := by
  refine BitVec.eq_of_getLsbD_eq fun i _ => ?_
  rw [BitVec.getLsbD_and, getLsbD_field _ hk, getLsbD_field _ hk, BitVec.getLsbD_extractLsb', BitVec.getLsbD_allOnes]
  by_cases below : k ≤ i
  · rw [Nat.add_sub_cancel' below, Bool.and_comm (v.getLsbD i), Bool.and_assoc]
  · simp [below]

theorem lowField_of_word (v : Word) {w : Nat} (hw : w ≤ 64) :
    (v.extractLsb' 0 w).setWidth 64 = v &&& (BitVec.allOnes w).setWidth 64 := by
  simpa only [BitVec.shiftLeft_zero] using field_of_word v (k := 0) (by omega)

/-- A flag of a word is its field of one bit. -/
theorem flag_of_word (v : Word) (k : Nat) : BitVec.ofBool (v.getLsbD k) = v.extractLsb' k 1 := by
  refine BitVec.eq_of_getLsbD_eq fun i hi => ?_
  obtain rfl : i = 0 := by omega
  simp

/-- CFG holds what is written, under its mask (10_state.md R34). -/
theorem ctrlWord_ofWord (v : Word) : (Ctrl.ofWord v).word = v &&& 0x0000000000FF03FF#64 := by
  simp only [Ctrl.word, Ctrl.ofWord, flag_of_word]
  rw [field_of_word v (by decide), field_of_word v (by decide), field_of_word v (by decide),
    lowField_of_word v (by decide), ← BitVec.and_or_distrib_left, ← BitVec.and_or_distrib_left,
    ← BitVec.and_or_distrib_left]
  rfl

/-- IRQ_EN holds what is written, under its mask (10_state.md R24). -/
theorem irqEnWord_ofWord (v : Word) : (IrqEn.ofWord v).word = v &&& 0x3#64 := by
  simp only [IrqEn.word, IrqEn.ofWord, flag_of_word]
  rw [field_of_word v (by decide), lowField_of_word v (by decide), ← BitVec.and_or_distrib_left]
  rfl

/-- CMB_TAG holds what is written, under its mask (10_state.md R46). -/
theorem tagWord_ofWord (v : Word) : tagWord (tagAOf v) (tagBOf v) = v &&& 0xFFFF#64 := by
  rw [tagWord, tagAOf, tagBOf, field_of_word v (by decide), lowField_of_word v (by decide),
    ← BitVec.and_or_distrib_left]
  rfl

/-- TBL_INDEX holds what is written, under its mask (10_state.md R54). -/
theorem tblIndexWord_ofWord (v : Word) : (v.setWidth 8).setWidth 64 = v &&& 0xFF#64 :=
  lowField_of_word v (w := 8) (by decide)

/-- The registers that store writes, each with its mask (43_host_access.md R221). -/
def storageMask : RegName → Option Word
  | .irqEn => some 0x3#64
  | .cfg => some 0x0000000000FF03FF#64
  | .poly | .init | .xorout | .check | .din | .cmbA | .cmbB | .cmbLen => some (BitVec.allOnes 64)
  | .cmbTag => some 0xFFFF#64
  | .tblIndex => some 0xFF#64
  | .id | .status | .cmd | .raw | .digest | .count | .cmbResult | .tblData
  | .actCfg | .actPoly | .actInit | .actXorout | .actCheck => none

/-- A register that stores holds what is written, under its mask. -/
theorem regValue_storeReg_same {r : RegName} {m : Word} (h : storageMask r = some m) (v : Word) (s : State) :
    (s.storeReg r v).regValue r = v &&& m := by
  cases r
  case poly | init | xorout | check | din | cmbA | cmbB | cmbLen => cases h; exact BitVec.and_allOnes.symm
  case irqEn => cases h; exact irqEnWord_ofWord v
  case cfg => cases h; exact ctrlWord_ofWord v
  case cmbTag => cases h; exact tagWord_ofWord v
  case tblIndex => cases h; exact tblIndexWord_ofWord v
  all_goals cases h

/-- Every other register keeps its value, but for STATUS and, when the index is written, TBL_DATA. -/
theorem regValue_storeReg_other {r q : RegName} (other : q ≠ r) (status : q ≠ .status)
    (tblData : q = .tblData → r ≠ .tblIndex) (v : Word) (s : State) :
    (s.storeReg r v).regValue q = s.regValue q := by
  cases r
  case id | status | cmd | raw | digest | count | cmbResult | tblData | actCfg | actPoly | actInit | actXorout |
    actCheck => rfl
  all_goals cases q
  case irqEn.irqEn | cfg.cfg | poly.poly | init.init | xorout.xorout | check.check | din.din | cmbA.cmbA | cmbB.cmbB |
    cmbLen.cmbLen | cmbTag.cmbTag | tblIndex.tblIndex => exact absurd rfl other
  case irqEn.status => exact absurd rfl status
  case tblIndex.tblData => exact absurd rfl (tblData rfl)
  all_goals rfl

@[simp] theorem busy_noteRace (r : RegName) (s : State) : (s.noteRace r).busy = s.busy := by
  unfold State.noteRace
  split
  · rfl
  · rename_i hf
    split
    · simp [State.busy, hf]
    · rfl

/-- Noting a race changes the value of no register. -/
@[simp] theorem regValue_noteRace (r q : RegName) (s : State) : (s.noteRace r).regValue q = s.regValue q := by
  cases q <;> simp [State.regValue, State.statusWord, State.irq]

@[simp] theorem regValue_respond (a : Response) (q : RegName) (s : State) :
    (s.respond a).regValue q = s.regValue q := by cases q <;> rfl

theorem writeReg_of_storage {r : RegName} {m : Word} (h : storageMask r = some m) (v : Word) (s : State) :
    s.writeReg r v = (s.storeReg r v).noteRace r := if_neg (by rintro rfl; cases h)

/-- Settles O34: the register stores, a race that is noted and the answer show in no register. -/
theorem storageWriteReadsBack : Obligations.StorageWriteReadsBack := by
  intro s r addr m v h
  obtain ⟨mask, rfl⟩ : storageMask r = some m ∧ r.offset = addr := by
    refine (?rows : ∀ p : RegName × BitVec 12 × Word, p ∈ _ → storageMask p.1 = some p.2.2 ∧ p.1.offset = p.2.1) _ h
    decide
  have shown : ∀ q, (((s.storeReg r v).noteRace r).respond .written).regValue q = (s.storeReg r v).regValue q := by simp
  have busy : ((s.storeReg r v).noteRace r).busy = s.busy :=
    (busy_noteRace r _).trans (congrArg Option.isSome (State.storeReg_inflight r v s))
  have notTblData : RegName.tblData ≠ r := by rintro rfl; cases mask
  rw [exec_wr_offset, writeReg_of_storage mask]
  refine ⟨_, rfl, (shown r).trans (regValue_storeReg_same mask v s), fun q other status tblData => ?_,
    fun noIndex => ?_, by simp, busy, by simp, by simp, by simp, by simp, by simp, by simp⟩
  · exact (shown q).trans (regValue_storeReg_other other status (absurd · tblData) v s)
  · exact (shown .tblData).trans (regValue_storeReg_other notTblData nofun (fun _ => noIndex) v s)

/-! CLEAR and the CMD write. -/

/-- Settles O27: CLEAR by BUSY. -/
theorem clearReturnsFromError : Obligations.ClearReturnsFromError := by
  refine ⟨fun s idle => ⟨s.clearSticky, ?_, rfl, rfl⟩, fun s busy => ?_⟩
  · exact congrArg Host.Outcome.next (if_neg (by simp [idle]))
  · exact congrArg Host.Outcome.next (if_pos busy)

/-- A write at the offset of CMD presents its word (43_host_access.md R221, R224). -/
theorem exec_wr_cmd (v : Word) (s : State) : exec (.wr 0x018#12 v) s = .next ((s.present v).respond .written) :=
  exec_wr_offset .cmd v s

/-- A decoded word presented to an idle CRCE issues its command, or clears the flags (43_host_access.md R224). -/
theorem present_of_decodeCmd {s : State} {v : Word} {i : Instr} (idle : s.busy = false) (hd : decodeCmd v = .ok i) :
    s.present v = if i.issues then s.issue (opcodeOf v) (argOf v) else s.clearSticky := by
  simp [State.present, idle, hd]

/-- Every instruction whose encoding is a command word has an OPCODE and an ARG, and is a CLEAR or issues. -/
theorem opArg_of_encode_command {i : Instr} {v : Word} (h : encode i = .command v) :
    opArg i = some (opcodeOf v, argOf v) ∧ (i ≠ .clear → i.issues = true) := by
  have fields : ∃ op arg, opArg i = some (op, arg) := by
    cases i
    case rd | wr => cases h
    all_goals exact ⟨_, _, rfl⟩
  obtain ⟨op, arg, fields⟩ := fields
  obtain rfl : commandWord op arg = v := Encoded.command.inj ((encode_of_opArg fields).symm.trans h)
  rw [opcodeOf_commandWord, argOf_commandWord]
  refine ⟨fields, fun notClear => ?_⟩
  cases i
  case clear => exact absurd rfl notClear
  case rd | wr => cases h
  all_goals rfl

/-- OPCODE 0x01 is CONFIG's alone (30_encoding.md R108). -/
theorem opcode_eq_config_iff {i : Instr} {op arg : Byte} (h : opArg i = some (op, arg)) :
    op = 0x01#8 ↔ i = .config := by
  cases i
  case rd | wr => cases h
  all_goals cases h; simp

theorem opcodeOf_eq_setWidth (v : Word) : opcodeOf v = v.setWidth 8 := by
  ext i hi
  simp [opcodeOf]

theorem argOf_eq_setWidth (v : Word) : argOf v = (v >>> 8).setWidth 8 := by
  ext i hi
  simp [argOf]

/-- Settles O39: the word decodes to its command, which `present` issues, or which is CLEAR. -/
theorem commandWriteIssues : Obligations.CommandWriteIssues := by
  intro s v i idle hv legal
  have hd : decodeCmd v = .ok i := by simpa [decode, hv] using decode_encode legal
  obtain ⟨fields, issues⟩ := opArg_of_encode_command hv
  rw [exec_wr_cmd, present_of_decodeCmd idle hd]
  refine ⟨?_, fun notClear => ?_⟩
  · rintro rfl
    rfl
  · have ready : (s.status.ready && opcodeOf v != 0x01#8) = if i = .config then false else s.status.ready := by
      by_cases config : i = .config
      · simp [config, (opcode_eq_config_iff fields).mpr config]
      · simp [config, mt (opcode_eq_config_iff fields).mp config]
    rw [if_pos (issues notClear), ← ready]
    exact ⟨_, latency_pos _ _ _ _, opcodeOf_eq_setWidth v, argOf_eq_setWidth v, rfl, rfl,
      command_of_decodeCmd hd (issues notClear) rfl rfl, rfl⟩

/-! exec away from the completion of the command in flight (log 3). -/

/-- exec of a command that issues carries it out. -/
theorem exec_eq_carryOut {i : Instr} {op arg : Byte} (hi : opArg i = some (op, arg)) (issues : i.issues = true)
    (s : State) : exec i s = .next (s.carryOut op arg (completion i)) := by
  cases i
  case clear | rd | wr => cases issues
  all_goals cases hi; rfl

/-- `s` with the flight record `flight` instead and `k` free values drawn. -/
def State.withFlight (flight : Option InFlight) (k : Nat) (s : State) : State :=
  { s with inflight := flight, free := k }

section withFlight

variable {flight : Option InFlight} {k : Nat} {s : State}

/-- Two choices under one condition, between states that differ in the counter of free values alone. -/
theorem ite_withFree {c : Prop} [Decidable c] {t u t' u' : State} (ht : t' = { t with free := k })
    (hu : u' = { u with free := k }) : (if c then t' else u') = { (if c then t else u) with free := k } := by
  subst ht hu
  split <;> rfl

theorem ifReady_withFlight {op : Byte} {g : State → State}
    (h : g (s.withFlight flight k) = { g s with free := k + 1 }) :
    (s.withFlight flight k).ifReady op g = { s.ifReady op g with free := k + 1 } := ite_withFree h rfl

theorem presetLands_of_unraced (h : Unraced s) (sp : Spec) : s.presetLands sp = sp := by
  simp [State.presetLands, landing_of_unraced _ _ (isRaced_of_unraced h _)]

/-- Of the flight record a completion uses only what was raced, and of the counter of free values only what decides the
races. -/
theorem completion_withFlight {i : Instr} (issues : i.issues = true) (snap : Snap) (before : Unraced s)
    (after : Unraced (s.withFlight flight k)) :
    completion i snap (s.withFlight flight k) = { completion i snap s with free := k + 1 } := by
  cases i with
  | nop => rfl
  | config => exact ite_withFree (ite_withFree rfl rfl) rfl
  | reset => exact ifReady_withFlight rfl
  | update nbytes => exact ite_withFree rfl (ifReady_withFlight rfl)
  | captureA =>
    refine ifReady_withFlight ?_
    rw [captureARuns_of_unraced before, captureARuns_of_unraced after]
    rfl
  | captureB =>
    refine ifReady_withFlight ?_
    rw [captureBRuns_of_unraced before, captureBRuns_of_unraced after]
    rfl
  | combine => exact ifReady_withFlight (ite_withFree rfl rfl)
  | selftest => exact ifReady_withFlight (ite_withFree rfl rfl)
  | loadPreset preset =>
    refine ite_withFree rfl ?_
    rw [presetLands_of_unraced before, presetLands_of_unraced after]
    rfl
  | clear => cases issues
  | rd | wr => cases issues

end withFlight

theorem unraced_of_idle {s : State} (idle : s.inflight = none) : Unraced s := fun f hf => by rw [idle] at hf; cases hf

/-- `s` with READY as the issue of the command of OPCODE `op` leaves it (40_table_builder.md R135). -/
def State.readyAtIssue (op : Byte) (s : State) : State :=
  { s with status := { s.status with ready := s.status.ready && op != 0x01#8 } }

theorem issue_eq_withFlight (op arg : Byte) (s : State) :
    s.issue op arg = (s.readyAtIssue op).withFlight (s.issue op arg).inflight (s.free + 1) := rfl

/-- CONFIG alone clears READY at issue, and it does not look at READY at its completion (40_table_builder.md R135). -/
theorem completion_readyAtIssue {i : Instr} {op arg : Byte} (hi : opArg i = some (op, arg)) (snap : Snap) (s : State) :
    completion i snap (s.readyAtIssue op) = completion i snap s := by
  by_cases config : i = .config
  · subst config
    rfl
  · have notConfig : op ≠ 0x01#8 := mt (opcode_eq_config_iff hi).mp config
    have ready : (s.status.ready && op != 0x01#8) = s.status.ready := by simp [notConfig]
    rw [State.readyAtIssue, ready]

/-- A completion in the cycle of the issue is the completion on the registers as they stand. -/
theorem completion_issue {i : Instr} {op arg : Byte} {s : State} (hi : opArg i = some (op, arg))
    (issues : i.issues = true) (idle : s.inflight = none) (snap : Snap) :
    completion i snap (s.issue op arg) = { completion i snap s with free := s.free + 1 + 1 } := by
  have before : Unraced (s.readyAtIssue op) := unraced_of_idle idle
  have after : Unraced (s.issue op arg) := fun f hf => by cases hf; rfl
  rw [issue_eq_withFlight] at after ⊢
  rw [completion_withFlight issues snap before after, completion_readyAtIssue hi]

/-- Settles O40: on an idle machine both are the completion on the registers as they stand; otherwise the command's word
is refused. -/
theorem execAwayFromCompletion : Obligations.ExecAwayFromCompletion := by
  refine ⟨fun s v i notBusy hv legal notClear => ?_, fun s f i op arg hf issues hv other => ?_⟩
  · obtain ⟨fields, issues⟩ := opArg_of_encode_command hv
    have idle : s.inflight = none := by simpa [State.busy] using notBusy
    have now : Carried (opcodeOf v) (argOf v) s.snapshot s := .inl ⟨idle, rfl⟩
    have issued : Carried (opcodeOf v) (argOf v) s.snapshot (s.issue (opcodeOf v) (argOf v)) :=
      .inr ⟨_, rfl, rfl, rfl, rfl⟩
    rw [← opcodeOf_eq_setWidth, ← argOf_eq_setWidth, exec_of_carried fields (issues notClear) now,
      exec_of_carried fields (issues notClear) issued, completion_issue fields (issues notClear) idle]
    exact ⟨_, _, rfl, rfl, rfl⟩
  · obtain ⟨fields, _⟩ := opArg_of_encode_command hv
    rw [opcodeOf_commandWord, argOf_commandWord] at fields
    rw [exec_eq_carryOut fields issues, carryOut_of_other hf other]
    rfl

end Sys2Proof.Machine
end

section
/-! PROOFS, family 60_exceptions.md: every state steps on (R250), the errors of commands (R252 to R254, R256), recording
(R255), the errors of a CMD write (R257 to R259), and the order of events in a cycle (R263). -/

namespace Sys2Proof.Machine

/-! The order of events in a cycle. -/

/-- Settles O6: a completion that is due by `step_of_due`, a hardware reset by `step_of_reset`. -/
theorem completionComesFirst : Obligations.CompletionComesFirst :=
  ⟨fun _ _ _ flight lastCycle command noReset => step_of_due noReset (due_eq_some.mpr ⟨flight, lastCycle⟩) command,
    fun _ _ _ reset => step_of_reset reset⟩

/-! No run stops. -/

/-- Every instruction has a next state in every state (60_exceptions.md R250). -/
theorem exec_next (i : Instr) (s : State) : ∃ t, exec i s = .next t := by
  cases i with
  | nop | config | reset | update | captureA | captureB | combine | selftest | loadPreset | clear => exact ⟨_, rfl⟩
  | rd | wr =>
    simp only [exec, execRd, execWr]
    split
    · split <;> exact ⟨_, rfl⟩
    · exact ⟨_, rfl⟩

theorem hostRequest_next (desc : BitVec 16) (wdata : Word) (s : State) : ∃ t, hostRequest desc wdata s = .next t := by
  unfold hostRequest
  cases decodeBus desc wdata with
  | ok i => exact exec_next i s
  | illegalCmd | badArg | illegalAccess => exact ⟨_, rfl⟩

/-- Whatever the host does in a cycle, the machine goes on. -/
theorem hostStep_next (s : State) : ∃ t, hostStep s = .next t := by
  unfold hostStep
  cases s.todo with
  | nil => exact ⟨_, rfl⟩
  | cons stmt rest =>
    cases stmt with
    | request desc wdata => exact hostRequest_next desc wdata _
    | wait => exact exec_next _ _
    | expect addr val =>
      obtain ⟨t, ht⟩ := exec_next (.rd addr) (s.setTodo rest)
      dsimp only
      rw [ht]
      exact ⟨_, rfl⟩
    | idle | rstLow => exact ⟨_, rfl⟩

/-- Settles O47: of a state that meets the invariant, the command in flight is one that exec carries out. -/
theorem stepNeverStops : Obligations.StepNeverStops := by
  intro s inv
  by_cases reset : ∃ req rest, s.todo = .rstLow req :: rest
  · obtain ⟨req, rest, htodo⟩ := reset
    exact ⟨_, step_of_reset htodo⟩
  · have noReset : ∀ req rest, s.todo ≠ .rstLow req :: rest := fun req rest htodo => reset ⟨req, rest, htodo⟩
    cases due : s.due with
    | none =>
      rw [step_of_not_due noReset due]
      exact hostStep_next s.tick
    | some f =>
      have legal : InFlightLegal f := inv.inflight f (due_eq_some.mp due).1
      obtain ⟨i, command⟩ := Option.isSome_iff_exists.mp legal.command
      rw [step_of_due noReset due command]
      exact exec_next i s

/-! Recording. -/

/-- With no error recorded, recording writes the error record (60_exceptions.md R255). -/
theorem record_of_not_err {st : Status} (h : st.err = false) (e : ErrCode) (op : Byte) :
    st.record e op = { st with err := true, errCode := e, errOp := op } := by
  simp [Status.record, h]

/-- Settles O28: the record by ERR, the other flags whatever it is. -/
theorem firstErrorIsKept : Obligations.FirstErrorIsKept := by
  intro st e op
  refine ⟨record_err e op st, record_ready e op st, record_done e op st, fun noErr => ?first, fun err => ?kept⟩
  case first =>
    rw [record_of_not_err noErr]
    exact ⟨rfl, rfl⟩
  case kept =>
    rw [record_of_err err]
    exact ⟨rfl, rfl⟩

/-- An error raised by a command that has just written READY (60_exceptions.md R252, R253). -/
theorem raise_setReady (e : ErrCode) (op : Byte) (ready : Bool) (s : State) :
    State.raise e op { s with status := { s.status with ready := ready } } = { s with
      status := { s.status.record e op with ready := ready, done := true }, inflight := none, free := s.free + 1 } := by
  simp only [State.raise, State.record, State.finish, record_setReady]

/-! The errors of the commands. -/

/-- CONFIG of an unsupported width (40_table_builder.md R139). -/
theorem configCompletes_of_illegal_width {snap : Snap} (h : widthLegal snap.spec.ctrl.width = false) (s : State) :
    configCompletes snap s =
      State.raise .cfgWidth 0x01#8 { s.configStart with act := Act.latchUnmasked snap.spec s.act } := by
  simp [configCompletes, h]

/-- Settles O15: neither width is the spec's, so CONFIG raises behind its first writes. -/
theorem configRefusesWidth : Obligations.ConfigRefusesWidth := by
  intro s snap carried not32 not64
  have illegal : widthLegal snap.spec.ctrl.width = false := by simp [widthLegal, not32, not64]
  refine ⟨s.act.w, ?_⟩
  rw [exec_of_carried rfl rfl carried, completion, configCompletes_of_illegal_width illegal]
  exact congrArg Host.Outcome.next (raise_setReady .cfgWidth 0x01#8 false
    { s with act := Act.latchUnmasked snap.spec s.act, reg := 0#64, count := 0#64 })

/-- CONFIG whose self-test fails keeps what it has built (40_table_builder.md R140). -/
theorem configCompletes_of_fails {snap : Snap} (width : widthLegal snap.spec.ctrl.width = true)
    (fails : selftestDigest (Act.latch snap.spec) (buildTable (Act.latch snap.spec)) ≠ (Act.latch snap.spec).check)
    (s : State) : configCompletes snap s = (s.configBuilt snap.spec).raise .cfgSelftest 0x01#8 := by
  unfold configCompletes
  rw [if_pos width]
  exact if_neg fails

/-- Settles O16: CONFIG and SELFTEST raise the error behind their write of READY. -/
theorem selftestMismatchIsAnError : Obligations.SelftestMismatchIsAnError := by
  refine ⟨fun s snap carried width fails => ?config, fun s snap carried ready fails => ?selftest⟩
  case config =>
    rw [exec_of_carried rfl rfl carried, completion, configCompletes_of_fails width fails]
    exact congrArg Host.Outcome.next (raise_setReady .cfgSelftest 0x01#8 false
      { s with act := Act.latch snap.spec, table := buildTable (Act.latch snap.spec), reg := 0#64, count := 0#64 })
  case selftest =>
    rw [exec_of_carried rfl rfl carried, completion, ifReady_of_ready ready, selftestRuns, if_neg fails,
      raise_setReady]

/-- Settles O24: the tag check comes before everything else of COMBINE. -/
theorem mismatchedTagsAreRefused : Obligations.MismatchedTagsAreRefused := by
  intro s snap carried ready differs
  have mismatch : ¬ (snap.tagA = s.act.ctrl.specId ∧ snap.tagB = s.act.ctrl.specId) := not_and_or.mpr differs
  rw [exec_of_carried rfl rfl carried, completion, ifReady_of_ready ready, combineRuns, if_neg mismatch]
  rfl

/-- A command behind the READY gate, on an engine that is not ready (40_table_builder.md R142). -/
theorem exec_of_not_ready {i : Instr} {op arg : Byte} {snap : Snap} {run : State → State} {s : State}
    (fields : opArg i = some (op, arg)) (issues : i.issues = true) (gated : completion i snap s = s.ifReady op run)
    (carried : Carried op arg snap s) (notReady : s.status.ready = false) :
    exec i s = .next (s.raise .notReady op) := by
  rw [exec_of_carried fields issues carried, gated, ifReady_of_not_ready notReady]

/-- Settles O26: each of the six commands is behind the READY gate, UPDATE past its check of NBYTES. -/
theorem notReadyIsRaised : Obligations.NotReadyIsRaised := by
  intro s snap op arg i carried notReady row inRange
  simp only [List.mem_cons, Prod.mk.injEq, List.not_mem_nil, or_false] at row
  obtain ⟨rfl, rfl, rfl⟩ | ⟨rfl, -, rfl⟩ | ⟨rfl, rfl, rfl⟩ | ⟨rfl, rfl, rfl⟩ | ⟨rfl, rfl, rfl⟩ | ⟨rfl, rfl, rfl⟩ := row
  case inr.inl =>
    have gated : completion (.update arg) snap s = s.ifReady 0x03#8 (updateRuns arg snap) :=
      if_neg (Nat.not_lt.mpr (inRange rfl))
    exact exec_of_not_ready rfl rfl gated carried notReady
  all_goals exact exec_of_not_ready rfl rfl rfl carried notReady

/-! The errors of a CMD write. -/

theorem present_of_busy {s : State} (busy : s.busy = true) (v : Word) :
    s.present v = s.record .busyViolation (opcodeOf v) := if_pos busy

/-- Settles O37: a word presented to a busy CRCE is refused before it is decoded. -/
theorem busyWriteIsRefused : Obligations.BusyWriteIsRefused := by
  intro s v busy
  rw [exec_wr_cmd, present_of_busy busy, opcodeOf_eq_setWidth]
  rfl

/-- An illegal word presented to an idle CRCE (60_exceptions.md R258). -/
theorem present_of_illegalCmd {s : State} {v : Word} {op : Byte} (idle : s.busy = false)
    (hd : decodeCmd v = .illegalCmd op) : s.present v = s.rejectWord .illegalCmd op := by
  simp [State.present, idle, hd]

/-- A word with an ARG out of range presented to an idle CRCE (60_exceptions.md R257). -/
theorem present_of_badArg {s : State} {v : Word} {op : Byte} (idle : s.busy = false)
    (hd : decodeCmd v = .badArg op) : s.present v = s.rejectWord .badArg op := by
  simp [State.present, idle, hd]

/-- The illegal words, by their fields as numbers (60_exceptions.md R258). -/
theorem decodeCmd_of_illegal {v : Word} (h : 65536 ≤ v.toNat ∨ 0x0A ≤ v.toNat % 256 ∨
    (v.toNat % 256 ≠ 3 ∧ v.toNat % 256 ≠ 8 ∧ v.toNat / 256 % 256 ≠ 0)) :
    decodeCmd v = .illegalCmd (v.setWidth 8) := by
  rw [← opcodeOf_eq_setWidth, opcodeOf_eq_ofNat]
  refine (commandWordDecodes v).trans ?_
  by_cases rsvd : 65536 ≤ v.toNat
  · rw [if_pos rsvd]
  by_cases reserved : 0x0A ≤ v.toNat % 256
  · rw [if_neg rsvd, if_pos reserved]
  have argNotZero := (h.resolve_left rsvd).resolve_left reserved
  rw [if_neg rsvd, if_neg reserved, if_pos argNotZero]

/-- UPDATE with NBYTES above 8 (60_exceptions.md R257). -/
theorem decodeCmd_update_of_gt {arg : Byte} (h : 8 < arg.toNat) :
    decodeCmd (commandWord 0x03#8 arg) = .badArg 0x03#8 := by
  simp [decodeCmd_commandWord, h]

/-- LOAD_PRESET with PRESET above 1 (60_exceptions.md R257). -/
theorem decodeCmd_loadPreset_of_gt {arg : Byte} (h : 1 < arg.toNat) :
    decodeCmd (commandWord 0x08#8 arg) = .badArg 0x08#8 := by
  simp [decodeCmd_commandWord, h]

/-- Settles O38: the word does not decode, and CRCE records why. -/
theorem rejectedWordIsRecorded : Obligations.RejectedWordIsRecorded := by
  refine ⟨fun s v idle illegal => ?illegal, fun s arg idle => ⟨fun above => ?update, fun above => ?loadPreset⟩⟩ <;>
    rw [exec_wr_cmd]
  case illegal => rw [present_of_illegalCmd idle (decodeCmd_of_illegal illegal)]; rfl
  case update => rw [present_of_badArg idle (decodeCmd_update_of_gt above)]; rfl
  case loadPreset => rw [present_of_badArg idle (decodeCmd_loadPreset_of_gt above)]; rfl

end Sys2Proof.Machine
end

section
/-! PROOFS, family 70_reset_and_hazards.md: hardware reset (R291), the read hazard (R297), the write hazard (R298), operands
latched at issue and the cycles of a command in flight (R299, R304). -/

namespace Sys2Proof.Machine

/-! Hardware reset. -/

/-- Settles O12: a reset cycle by whether a request is made in it. -/
theorem hardwareResetRestores : Obligations.HardwareResetRestores := by
  intro s req rest reset
  refine ⟨resetCycle req rest s, step_of_reset reset, ?_⟩
  cases req with
  | none => exact ⟨rfl, fun _ => rfl, fun request => absurd rfl request⟩
  | some _ => exact ⟨rfl, nofun, fun _ => ⟨_, _, rfl⟩⟩

/-! The read hazard. -/

/-- The pairs of 70_reset_and_hazards.md R297: the registers whose reads a command in flight makes unspecified. -/
theorem mem_hazardReads {r : RegName} {op : Byte} : r ∈ hazardReads op ↔
    op = 0x01#8 ∧ r ∈ [.raw, .digest, .count, .tblData, .actCfg, .actPoly, .actInit, .actXorout, .actCheck] ∨
      op = 0x02#8 ∧ r ∈ [.raw, .digest, .count] ∨ op = 0x03#8 ∧ r ∈ [.raw, .digest, .count] ∨
      op = 0x04#8 ∧ r ∈ [.cmbA, .cmbTag] ∨ op = 0x05#8 ∧ r ∈ [.cmbB, .cmbTag, .cmbLen] ∨
      op = 0x06#8 ∧ r ∈ [.cmbResult] ∨ op = 0x08#8 ∧ r ∈ [.cfg, .poly, .init, .xorout, .check] := by
  unfold hazardReads
  repeat' split
  all_goals simp_all

theorem readUnspecified_iff {r : RegName} {s : State} :
    s.readUnspecified r = true ↔ ∃ f, s.inflight = some f ∧ r ∈ hazardReads f.op := by
  unfold State.readUnspecified
  cases s.inflight <;> simp

theorem readReg_of_unspecified {r : RegName} {s : State} (h : s.readUnspecified r = true) :
    s.readReg r = State.respond (.read (Config.unspecifiedRead s.free)) { s with free := s.free + 1 } := if_pos h

/-- Settles O32: the registers by `mem_hazardReads`, the answer by the draw of a hazardous read. -/
theorem hazardReadAnswers : Obligations.HazardReadAnswers := by
  have specified {r : RegName} (s : State) (h : r ∈ [RegName.id, .irqEn, .status, .cmd]) :
      s.readUnspecified r = false := readUnspecified_of_not_mem (fun op => not_mem_hazardReads op r h) s
  refine ⟨fun s r hazard => ⟨Config.unspecifiedRead s.free, ?_⟩, fun s => ?_, fun s r => ?_⟩
  · rw [exec_rd_offset, readReg_of_unspecified hazard]
    rfl
  · exact ⟨specified s (by decide), specified s (by decide), specified s (by decide), specified s (by decide)⟩
  · simp only [readUnspecified_iff, mem_hazardReads]

/-! The write hazard. -/

theorem isRaced_of_flight {f : InFlight} {s : State} (flight : s.inflight = some f) (q : RegName) :
    s.isRaced q = decide (q ∈ f.raced) := by
  rw [State.isRaced, flight]

/-- What the write of a register other than CMD adds to the raced registers: itself, if the command in flight writes it
too (70_reset_and_hazards.md R298). -/
theorem isRaced_writeReg {f : InFlight} {s : State} {r : RegName} (flight : s.inflight = some f) (notCmd : r ≠ .cmd)
    (v : Word) (q : RegName) :
    (s.writeReg r v).isRaced q = true ↔ s.isRaced q = true ∨ q = r ∧ r ∈ hazardWrites f.op := by
  have stored : (s.storeReg r v).inflight = some f := by simp [flight]
  rw [State.writeReg, if_neg notCmd, State.noteRace, stored, isRaced_of_flight flight, decide_eq_true_iff]
  dsimp only
  split
  · rename_i noted
    rw [isRaced_of_flight rfl, decide_eq_true_iff, List.mem_cons, or_comm, and_iff_left noted.1]
  · rename_i notNoted
    rw [isRaced_of_flight stored, decide_eq_true_iff]
    refine ⟨.inl, fun h => h.elim id ?_⟩
    rintro ⟨rfl, hazard⟩
    exact not_not.mp fun fresh => notNoted ⟨hazard, fresh⟩

/-- Settles O21: a register lands one of the two values by `landing_cases`, and the one of the free choice by
`landing_of_raced`. -/
theorem racedWriteHasTwoOutcomes : Obligations.RacedWriteHasTwoOutcomes := by
  refine ⟨fun s snap carried ready => ⟨captureARuns s, ?captureA, rfl, ?landsA⟩,
    fun s snap carried ready => ⟨captureBRuns s, ?captureB, rfl, ?landsB⟩,
    fun s snap p carried inRange => ⟨State.finish { s with staging := s.presetLands (presetSpec p) }, ?preset, ?landsP⟩,
    fun s f r v flight notCmd => ⟨?pairs, fun q other => ?others⟩⟩
  case captureA => rw [exec_of_carried rfl rfl carried, completion, ifReady_of_ready ready]
  case captureB => rw [exec_of_carried rfl rfl carried, completion, ifReady_of_ready ready]
  case preset =>
    rw [exec_of_carried rfl rfl carried, completion, loadPresetCompletes, if_neg (Nat.not_lt.mpr inRange)]
  case landsA =>
    exact ⟨landing_cases .cmbA _ _ s, landing_cases .cmbTag _ _ s, landing_of_raced _ _, landing_of_raced _ _⟩
  case landsB =>
    exact ⟨landing_cases .cmbB _ _ s, landing_cases .cmbTag _ _ s, landing_cases .cmbLen _ _ s, landing_of_raced _ _,
      landing_of_raced _ _, landing_of_raced _ _⟩
  case landsP =>
    exact ⟨landing_cases .cfg _ _ s, landing_cases .poly _ _ s, landing_cases .init _ _ s,
      landing_cases .xorout _ _ s, landing_cases .check _ _ s, landing_of_raced _ _, landing_of_raced _ _,
      landing_of_raced _ _, landing_of_raced _ _, landing_of_raced _ _⟩
  case pairs => rw [isRaced_writeReg flight notCmd, ← mem_hazardWrites, and_iff_right rfl]
  case others => rw [Bool.eq_iff_iff, isRaced_writeReg flight notCmd, or_iff_left fun h => other h.1]

/-! Operands latched at issue. -/

section storeReg

variable {r : RegName} {v : Word}

/-- Two choices under one condition, between states that differ by a store alone. -/
theorem ite_storeReg {c : Prop} [Decidable c] {t u t' u' : State} (ht : t' = t.storeReg r v)
    (hu : u' = u.storeReg r v) : (if c then t' else u') = (if c then t else u).storeReg r v := by
  subst ht hu
  split <;> rfl

/-- CONFIG, UPDATE and COMBINE read the host's registers in the snapshot alone, and write none of them: a store before
the completion is a store after it (70_reset_and_hazards.md R299). -/
theorem completion_storeReg {i : Instr} (h : i = .config ∨ (∃ n, i = .update n) ∨ i = .combine) (snap : Snap)
    (s : State) : completion i snap (s.storeReg r v) = (completion i snap s).storeReg r v := by
  obtain rfl | ⟨n, rfl⟩ | rfl := h
  · cases r <;> exact ite_storeReg (ite_storeReg rfl rfl) rfl
  · cases r <;> exact ite_storeReg rfl (ite_storeReg rfl rfl)
  · cases r <;> exact ite_storeReg (ite_storeReg rfl rfl) rfl

end storeReg

/-- The opcodes of CONFIG, UPDATE and COMBINE are theirs alone (30_encoding.md R108). -/
theorem latching_of_opcode {i : Instr} {op arg : Byte} (h : opArg i = some (op, arg))
    (hop : op = 0x01#8 ∨ op = 0x03#8 ∨ op = 0x06#8) : i = .config ∨ (∃ n, i = .update n) ∨ i = .combine := by
  cases i
  case rd | wr => cases h
  case config => exact .inl rfl
  case update n => exact .inr (.inl ⟨n, rfl⟩)
  case combine => exact .inr (.inr rfl)
  all_goals cases h; exact absurd hop (by decide)

/-- Settles O44: the write only stores, and what the store adds after the completion is none of the results. -/
theorem operandsAreLatched : Obligations.OperandsAreLatched := by
  intro s t u f i r v flight command notCmd hop ht hu
  obtain ⟨fields, _, issues⟩ := opArg_of_command command
  have latching := latching_of_opcode fields hop
  have noHazard : r ∉ hazardWrites f.op := by obtain h | h | h := hop <;> simp [h, hazardWrites]
  have stored : (s.storeReg r v).inflight = some f := by simp [flight]
  have write : s.writeReg r v = s.storeReg r v := by
    rw [State.writeReg, if_neg notCmd, State.noteRace, stored]
    exact if_neg fun race => noHazard race.1
  rw [exec_of_carried fields issues (.inr ⟨f, flight, rfl, rfl, rfl⟩)] at ht
  rw [write, exec_of_carried fields issues (.inr ⟨f, stored, rfl, rfl, rfl⟩), completion_storeReg latching] at hu
  cases ht
  cases hu
  obtain ⟨engine, active, result, status, inflight, _⟩ := storeReg_keeps r v (completion i f.snap s)
  exact ⟨engine, active, result, status, inflight⟩

/-! The cycles of a command in flight. -/

theorem due_of_waiting {s : State} {f : InFlight} (flight : s.inflight = some f) (more : 1 < f.remaining) :
    s.due = none := by
  rw [State.due, flight]
  exact if_neg (Nat.not_le.mpr more)

theorem tick_of_flight {s : State} {f : InFlight} (flight : s.inflight = some f) :
    s.tick = { s with inflight := some { f with remaining := f.remaining - 1 } } := by
  rw [State.tick, flight]

theorem hostStep_of_no_statement {s : State} (h : s.todo = []) : hostStep s = .next s := by
  rw [hostStep, h]

theorem step_of_no_statement {s : State} (todo : s.todo = []) (notDue : s.due = none) : step s = .next s.tick := by
  rw [step_of_not_due (by simp [todo]) notDue, hostStep_of_no_statement (by simpa using todo)]

/-- Settles O9: a host with no statement leaves the cycle to the clock alone. -/
theorem clockCountsDown : Obligations.ClockCountsDown := by
  refine ⟨fun s f n todo flight remaining => ?_, fun s todo idle => ?_⟩
  · rw [step_of_no_statement todo (due_of_waiting flight (by omega)), tick_of_flight flight, remaining]
    rfl
  · rw [step_of_no_statement todo (due_of_idle idle), tick_of_idle idle]

/-- No statement of the host holds `rst_n` low (70_reset_and_hazards.md R290). -/
def NoReset (s : State) : Prop := ∀ req, .rstLow req ∉ s.todo

theorem NoReset.head {s : State} (h : NoReset s) (req : Option (BitVec 16 × Word)) (rest : List HostStmt) :
    s.todo ≠ .rstLow req :: rest := fun todo => h req (todo ▸ List.mem_cons_self)

theorem todo_of_rd {addr : BitVec 12} {s t : State} (h : exec (.rd addr) s = .next t) : t.todo = s.todo := by
  obtain ⟨_, _, rfl⟩ := execRd_eq h
  rfl

/-- A bus access leaves the host's statements as they are. -/
theorem todo_of_access {d : BitVec 16} {x : Word} {i : Instr} {s t : State} (hd : decodeBus d x = .ok i)
    (h : exec i s = .next t) : t.todo = s.todo := by
  obtain rfl | ⟨rfl, _⟩ := access_of_decodeBus hd
  · exact todo_of_rd h
  · obtain ⟨r, _, rfl⟩ | ⟨_, rfl⟩ := execWr_cases h
    · simp
    · rfl

theorem todo_of_hostRequest {d : BitVec 16} {x : Word} {s t : State} (h : hostRequest d x s = .next t) :
    t.todo = s.todo := by
  unfold hostRequest at h
  split at h
  · rename_i hd; exact todo_of_access hd h
  all_goals cases h; rfl

theorem todo_of_hostExpects (val : Word) (s : State) : (hostExpects val s).todo ⊆ s.todo := by
  unfold hostExpects
  split
  · exact List.Subset.refl _
  · exact List.nil_subset _

/-- The host comes by no statement in a cycle (log 1). -/
theorem todo_of_hostStep {s t : State} (h : hostStep s = .next t) : t.todo ⊆ s.todo := by
  unfold hostStep at h
  cases todo : s.todo with
  | nil => rw [todo] at h; cases h; rw [todo]; exact List.Subset.refl _
  | cons stmt rest =>
    have tail (ht : t.todo ⊆ rest) : t.todo ⊆ stmt :: rest := List.subset_cons_of_subset stmt ht
    rw [todo] at h
    cases stmt with
    | request d x => exact tail (todo_of_hostRequest h ▸ List.Subset.refl _)
    | wait =>
      rw [todo_of_rd h]
      split
      · rw [todo]; exact List.Subset.refl _
      · exact List.subset_cons_self _ rest
    | expect addr val =>
      obtain ⟨u, hu⟩ := exec_next (.rd addr) (s.setTodo rest)
      dsimp only at h
      rw [hu] at h
      cases h
      have read : u.todo = rest := todo_of_rd hu
      exact tail (read ▸ todo_of_hostExpects val u)
    | idle => cases h; exact tail (List.Subset.refl _)
    | rstLow => cases h; rw [todo]; exact List.Subset.refl _

/-- Nothing that a command in flight computes from or writes has changed, and it has not completed. -/
structure Waits (s t : State) : Prop where
  engine : SameEngine s t
  active : SameActive s t
  result : SameResult s t
  ready : t.status.ready = s.status.ready
  done : t.status.done = s.status.done

namespace Waits

theorem refl (s : State) : Waits s s := ⟨⟨rfl, rfl⟩, ⟨rfl, rfl⟩, ⟨rfl⟩, rfl, rfl⟩

theorem trans {s t u : State} (h : Waits s t) (h' : Waits t u) : Waits s u where
  engine := ⟨h'.engine.reg.trans h.engine.reg, h'.engine.count.trans h.engine.count⟩
  active := ⟨h'.active.act.trans h.active.act, h'.active.table.trans h.active.table⟩
  result := ⟨h'.result.cmbResult.trans h.result.cmbResult⟩
  ready := h'.ready.trans h.ready
  done := h'.done.trans h.done

theorem tick (s : State) : Waits s s.tick := ⟨⟨by simp, by simp⟩, ⟨by simp, by simp⟩, ⟨by simp⟩, by simp, by simp⟩

end Waits

/-- Whatever the host does in a cycle, the command in flight stays, and waits (70_reset_and_hazards.md R299). -/
theorem waits_of_hostMoves {s t : State} {f : InFlight} (flight : s.inflight = some f) (h : HostMoves s t) :
    (∃ l, t.inflight = some { f with raced := l }) ∧ Waits s t := by
  obtain ⟨_, _, _, _, rfl⟩ | ⟨r, v, l, _, rfl⟩ := h
  · exact ⟨⟨f.raced, flight⟩, ⟨rfl, rfl⟩, ⟨rfl, rfl⟩, ⟨rfl⟩, rfl, rfl⟩
  · have before : (s.setTodo l).inflight = some f := flight
    obtain ⟨stays, engine, active, result, ready, done, _⟩ := writeReg_of_busy before r v
    exact ⟨stays, ⟨engine.reg, engine.count⟩, ⟨active.act, active.table⟩, ⟨result.cmbResult⟩, ready, done⟩

/-- A cycle of a command that is not due costs it one remaining cycle, whatever the host does short of a hardware reset. -/
theorem step_of_waiting {s : State} {f : InFlight} (flight : s.inflight = some f) (more : 1 < f.remaining)
    (noReset : NoReset s) : ∃ t l, step s = .next t ∧
      t.inflight = some { f with remaining := f.remaining - 1, raced := l } ∧ Waits s t ∧ NoReset t := by
  obtain ⟨t, ht⟩ := hostStep_next s.tick
  have ticked : s.tick.inflight = some { f with remaining := f.remaining - 1 } := by simp [tick_inflight, flight]
  obtain ⟨⟨l, stays⟩, waits⟩ := waits_of_hostMoves ticked (hostMoves_of_hostStep ht)
  have todo : t.todo ⊆ s.todo := State.tick_todo s ▸ todo_of_hostStep ht
  refine ⟨t, l, ?_, stays, (Waits.tick s).trans waits, fun req mem => noReset req (todo mem)⟩
  rw [step_of_not_due noReset.head (due_of_waiting flight more), ht]

theorem core_run_zero (s : State) : core.run 0 s = .next s := rfl

theorem setRemaining_self {f : InFlight} {k : Nat} (h : f.remaining = k) : { f with remaining := k } = f := by
  subst h
  rfl

/-- Cycle by cycle, a command in flight comes to its last one. -/
theorem run_to_last_cycle {s : State} {f : InFlight} {n : Nat} (flight : s.inflight = some f)
    (remaining : f.remaining = n + 1) (noReset : NoReset s) : ∃ u l, core.run n s = .next u ∧
      u.inflight = some { f with remaining := 1, raced := l } ∧ Waits s u ∧ NoReset u := by
  induction n generalizing s f with
  | zero => exact ⟨s, f.raced, rfl, flight.trans (congrArg some (setRemaining_self remaining).symm), .refl s, noReset⟩
  | succ n ih =>
    obtain ⟨t, l, ht, stays, waits, noReset'⟩ := step_of_waiting flight (by omega) noReset
    obtain ⟨u, l', hu, last, waits', noReset''⟩ := ih stays (by simp [remaining]) noReset'
    exact ⟨u, l', (core_run_succ ht n).trans hu, last, waits.trans waits', noReset''⟩

/-- With nothing for the host to do, only the remaining cycles move. -/
theorem run_of_no_statement {s : State} {f : InFlight} {n : Nat} (todo : s.todo = []) (flight : s.inflight = some f)
    (remaining : f.remaining = n + 1) :
    core.run n s = .next { s with inflight := some { f with remaining := 1 } } := by
  induction n generalizing s f with
  | zero => rw [setRemaining_self remaining, ← flight]; exact core_run_zero s
  | succ n ih =>
    rw [core_run_succ (clockCountsDown.1 s f n todo flight remaining)]
    exact ih (f := { f with remaining := n + 1 }) todo rfl rfl

/-- Settles O10: the run to the last cycle, and the completion due in it. -/
theorem commandCompletesInTime : Obligations.CommandCompletesInTime := by
  refine ⟨fun s f i n flight remaining command noReset => ?_, fun s f i n todo flight remaining command => ?_⟩
  · obtain ⟨u, l, hu, last, waits, noReset'⟩ := run_to_last_cycle flight remaining noReset
    exact ⟨u, _, hu, last, rfl, step_of_due noReset'.head (due_eq_some.mpr ⟨last, le_rfl⟩) command, waits.engine,
      waits.active, waits.result, waits.ready, waits.done⟩
  · refine ⟨_, run_of_no_statement todo flight remaining, rfl, ?_⟩
    exact step_of_due (by simp [todo]) (due_eq_some.mpr ⟨rfl, le_rfl⟩) command

end Sys2Proof.Machine
end
